-- ==== Sys2Proof/Word.lean ====
section
/-!
DEFINITION. The words of the bridge: bytes of frames, parameters and the Table Store, and the 16-bit quantities (frame check, counters).
-/

namespace Sys2Proof

/-- One byte of a frame, of a management parameter or of the Table Store. -/
abbrev Byte := BitVec 8

/-- A 16-bit quantity: a frame check (R158) or a performance counter (R150). -/
abbrev Word := BitVec 16

end Sys2Proof
end

