-- ==== Sys2Proof/Syntax.lean ====
section
/-!
DEFINITION. The commands of the block: one constructor per row of spec/opcode_table.json.

The table gives the rows no fields. The operands below are what an event carries from outside (log 2): the bytes of a frame, the branch at which an event of a port happens, the slot whose refusal arrives. A management command carries none: its parameters stand in the record of the request at the head of the Management Queue (R165).
-/

namespace Sys2Proof

/-- A branch of the bridge, numbered 0 to 3. -/
abbrev Branch := Fin 4

/-- A tag: the number of a transaction record, 0 to 15 (R1). -/
abbrev Tag := Fin 16

/-- The number of a Route Cache slot, 0 to 31 (R26). -/
abbrev SlotNo := Fin 32

/-- A frame on the trunk line at its end: its bytes, and the time since its first byte began to arrive, in µs, rounded up (R159; log 2). -/
structure LineFrame where
  bytes : List Byte
  age : Nat
  deriving DecidableEq, Repr

/-- The steps of the bridge, one per row of the opcode table. -/
inductive Instr where
  /-- POWER_ON (R173): power is applied. -/
  | powerOn
  /-- POWER_LOSS (R143): power is removed. -/
  | powerLoss
  /-- LINE_ENTERS_BREAK (R159): the receiving line enters break; `received` holds what has arrived of a frame that ends there, and has no bytes when the line carries none. -/
  | lineEntersBreak (received : LineFrame)
  /-- LINE_RETURNS_TO_IDLE (R162). -/
  | lineReturnsToIdle
  /-- TRUNK_BREAK (R162): the break timer reaches 200 µs. -/
  | trunkBreak
  /-- FRAME_COMPLETION (R158): a frame completes. -/
  | frameCompletion (frame : LineFrame)
  /-- DISPATCH (R4). -/
  | dispatch
  /-- FILL_COMPLETION (R35): the read in progress, a fill, completes. -/
  | fillCompletion
  /-- FILL_REFUSAL (R37): the refusal of the fill of `slot` reaches the Route Cache. -/
  | fillRefusal (slot : SlotNo)
  /-- TAKE_HEAD (R72). -/
  | takeHead (branch : Branch)
  /-- BRANCH_TRANSMISSION_END (R79): the command frame has been sent and `heard` are the bytes the receiver heard of it. -/
  | branchTransmissionEnd (branch : Branch) (heard : List Byte)
  /-- TRANSMIT_WATCHDOG_EXPIRY (R79). -/
  | transmitWatchdogExpiry (branch : Branch)
  /-- RESPONSE_TIMER_EXPIRY (R87). -/
  | responseTimerExpiry (branch : Branch)
  /-- BRANCH_FRAME_HEARD (R83): a complete frame with these bytes is heard on the branch. -/
  | branchFrameHeard (branch : Branch) (bytes : List Byte)
  /-- START_OF_TRANSMISSION (R160). -/
  | startOfTransmission
  /-- TRANSMISSION_END (R161). -/
  | transmissionEnd
  /-- OPERATION_COMPLETION (R126). -/
  | operationCompletion
  /-- SUSPEND_EFFECTIVE (R132). -/
  | suspendEffective
  /-- HOLDOFF_EXPIRY (R134). -/
  | holdoffExpiry
  /-- STORE_READ_COMPLETION (R141). -/
  | storeReadCompletion
  /-- CHUNK_COMPLETION (R60). -/
  | chunkCompletion
  /-- LOADER_READ_COMPLETION (R173). -/
  | loaderReadCompletion
  /-- INTERVAL_TIMER_EXPIRY (R151). -/
  | intervalTimerExpiry
  /-- PROCESSING_EVENT (R110). -/
  | processingEvent
  /-- IDENTIFY (R168). -/
  | identify
  /-- READ_CONFIG (R169). -/
  | readConfig
  /-- SET_CONFIG (R170). -/
  | setConfig
  /-- EVENTS (R154). -/
  | events
  /-- SET_EVENT_MASK (R153). -/
  | setEventMask
  /-- FAULT_READ (R148). -/
  | faultRead
  /-- FAULT_CLEAR (R149). -/
  | faultClear
  /-- CHANGES_READ (R99). -/
  | changesRead
  /-- UNIT_STATUS_READ (R100). -/
  | unitStatusRead
  /-- COUNTERS_READ (R152). -/
  | countersRead
  /-- SNAPSHOT (R151). -/
  | snapshot
  /-- PORT_CONTROL_ENABLE (R69). -/
  | portControlEnable
  /-- PORT_CONTROL_DISABLE (R70). -/
  | portControlDisable
  /-- PORT_CONTROL_REPORT (R68). -/
  | portControlReport
  /-- CANCEL (R18). -/
  | cancel
  /-- QUEUE_INVALIDATION (R108). -/
  | queueInvalidation
  /-- IQ_STATUS (R120). -/
  | iqStatus
  /-- IQ_RECOVER (R119). -/
  | iqRecover
  /-- STORE_WRITE_ENABLE (R127). -/
  | storeWriteEnable
  /-- STORE_WRITE_DISABLE (R127). -/
  | storeWriteDisable
  /-- STORE_PROGRAM (R128). -/
  | storeProgram
  /-- STORE_ERASE (R129). -/
  | storeErase
  /-- STORE_SUSPEND (R131). -/
  | storeSuspend
  /-- STORE_RESUME (R133). -/
  | storeResume
  /-- STORE_READ (R141). -/
  | storeRead
  /-- STORE_STATUS (R142). -/
  | storeStatus
  /-- STORE_PROTECT (R130). -/
  | storeProtect
  /-- ACTIVATE_POLICY_START (R58). -/
  | activatePolicyStart
  /-- ACTIVATE_POLICY_REPORT (R64). -/
  | activatePolicyReport
  /-- CACHE_READ (R46). -/
  | cacheRead
  /-- RESET_BRIDGE (R171). -/
  | resetBridge
  /-- UNKNOWN_COMMAND (R166). -/
  | unknownCommand
  deriving DecidableEq, Repr

end Sys2Proof
end

