-- ==== Sys2Proof/Decode.lean ====
section
/-!
DEFINITION. The command a word spells. spec/opcode_table.json gives no row any bits, so no word spells a command (log 3).
-/

namespace Sys2Proof

/-- The command that a word of the opcode table spells: none, since the table's rows give no bits. -/
def decodeTableWord (_nbits _w : Nat) : Option Instr := none

end Sys2Proof
end

