-- ==== Sys2Proof/Config.lean ====
section
/-!
DEFINITION. What the part fixes: its capacities and times (spec/00 section 4 and the chapters named), and the one free value of the model.
-/

namespace Sys2Proof.Config

/-- The Intake Queue holds at most 8 frames (R157). -/
def intakeCapacity : Nat := 8
/-- A Branch Queue holds at most 4 entries (R71). -/
def branchQueueCapacity : Nat := 4
/-- The Management Queue holds at most 4 requests, the one executing included (R164). -/
def managementCapacity : Nat := 4
/-- The Invalidation Queue holds at most 16 descriptors (R107). -/
def invalidationCapacity : Nat := 16
/-- The Change List holds at most 32 units (R97). -/
def changeListCapacity : Nat := 32
/-- A frame's payload is 0 to 48 bytes (R5). -/
def payloadMax : Nat := 48
/-- The shortest frame the trunk receiver passes on (R158, R176). -/
def trunkFrameMin : Nat := 3
/-- The longest request frame (R176, R177). -/
def trunkFrameMax : Nat := 55
/-- The smallest branch frame (R176). -/
def branchFrameMin : Nat := 7

/-- The Table Store has 8192 bytes (R123). -/
def storeBytes : Nat := 8192
/-- A sector has 1024 bytes (R123). -/
def sectorBytes : Nat := 1024
/-- A page has 32 bytes (R123). -/
def pageBytes : Nat := 32
/-- Every bit set: the erased value (R124). -/
def erasedValue : Byte := 0xFF
/-- The physical unit of a segment broadcast (R88). -/
def segmentBroadcast : Byte := 0x3F

/-- The holdoff, in µs (R134). -/
def holdoffTime : Nat := 100
/-- The transmit watchdog, in µs (R75). -/
def watchdogTime : Nat := 3000
/-- The unit of a response timeout value, in µs (R82). -/
def timeoutUnit : Nat := 20
/-- The break detection interval, in µs (R162). -/
def breakTime : Nat := 200
/-- The interval timer's period, in µs (R151). -/
def intervalTime : Nat := 1000000
/-- The longest running time of a page program, in µs (R126). -/
def programMax : Nat := 2500
/-- The longest running time of a sector erase, in µs (R126). -/
def eraseMax : Nat := 150000

/-- FREE VALUE (R143, log 6): whether, at the power loss with this number, the byte at this address of a lost operation's target is left at its target value (true) or at its old value (false). The world chooses; nothing constrains it. -/
opaque powerLossTakesTarget : Nat → Nat → Bool

end Sys2Proof.Config
end

