-- ==== Sys2Proof/Machine/State.lean ====
section
/-!
DEFINITION. The state of the bridge, block by block as in the block table of spec/00 section 3, all of it plain data, and the state right after power-on.
-/

namespace Sys2Proof.Machine

/-! ## Requests, transactions and responses (spec/01) -/

/-- The four ops of a request (R5). -/
inductive ReqOp where
  | read | write | exchange | queryLast
  deriving DecidableEq, Repr

/-- The outcome codes (R177). -/
inductive OutcomeCode where
  | done | doneLocal | refusedIllegal | refusedBusy | badRequest | noRoute | storeBusy | portDown
  | unitTimeout | unitError | unitReject | unitBusy | cancelled | broadcastPartial
  deriving DecidableEq, Repr

/-- The states of a transaction record (R1). -/
inductive TagState where
  | free | mgmt | lookup | held | queued | active | bcast | replying
  deriving DecidableEq, Repr

/-- How one member of a broadcast stands (R1, R15, R16). -/
inductive MemberState where
  | pending | succeeded | failed
  deriving DecidableEq, Repr

/-- The route facts a routed transaction copies from its route (R1, R12). -/
structure RouteFacts where
  branch : Branch
  physUnit : Byte
  physChannel : Byte
  timeoutClass : Fin 4
  deriving DecidableEq, Repr

/-- A transaction record (R1). `op` is absent for a bad request whose op is undefined. `members` holds, per branch, nothing when the branch is no member. -/
structure TagRecord where
  state : TagState
  seq : BitVec 32
  op : Option ReqOp
  unit : Byte
  channel : Byte
  length : Byte
  payload : List Byte
  slot : Option SlotNo
  facts : Option RouteFacts
  cancelPending : Bool
  members : Vector (Option MemberState) 4
  outcome : Option OutcomeCode
  deriving DecidableEq, Repr

/-- A FREE record. It carries no transaction; its other fields have no meaning (R1) and are held blank (log 9). -/
def TagRecord.blank : TagRecord where
  state := .free
  seq := 0
  op := none
  unit := 0
  channel := 0
  length := 0
  payload := []
  slot := none
  facts := none
  cancelPending := false
  members := Vector.replicate 4 none
  outcome := none

/-- A response in the Reply Queue (R21). `status` absent means status-present clear. ATTENTION is stamped when transmission begins (R155). -/
structure Response where
  tag : Tag
  unit : Byte
  outcome : OutcomeCode
  status : Option Byte
  payload : List Byte
  deriving DecidableEq, Repr

/-- The Dispatcher: the Tag Table and the dispatch sequence counter (R1, R2). -/
structure Dispatcher where
  tags : Vector TagRecord 16
  nextSeq : BitVec 32
  deriving DecidableEq, Repr

/-- R3: every record FREE and the counter 0. -/
def Dispatcher.reset : Dispatcher where
  tags := Vector.replicate 16 TagRecord.blank
  nextSeq := 0

/-! ## The Trunk Port (spec/09) -/

/-- The receiver's states (R157). -/
inductive Receiver where
  | receiving | silent | inBreak
  deriving DecidableEq, Repr

/-- The Trunk Port (R157). `openFor` is the time, in µs, for which the receiver has been RECEIVING, by which a frame that began before is told from one that began after (R159; log 2). `reception` holds a frame that a break has ended, until the line returns to idle (log 15). The transmitter holds the frame being sent. `lineInBreak` with the break timer stopped is a detected break still held (R162). -/
structure TrunkPort where
  receiver : Receiver
  openFor : Nat
  reception : Option (List Byte)
  intake : List (List Byte)
  replies : List Response
  transmitter : Option (List Byte)
  lineInBreak : Bool
  breakTimer : Option Nat
  deriving DecidableEq, Repr

/-- R163, power-on. -/
def TrunkPort.reset : TrunkPort where
  receiver := .silent
  openFor := 0
  reception := none
  intake := []
  replies := []
  transmitter := none
  lineInBreak := false
  breakTimer := none

/-! ## The Route Cache (spec/02) -/

/-- The service states of a route entry (R24). -/
inductive ServiceState where
  | inService | oosLocal | oosRefuse
  deriving DecidableEq, Repr

/-- A decoded route: the nine fields after the marker (R24). -/
structure Route where
  branch : Branch
  physUnit : Byte
  service : ServiceState
  policyClass : Fin 16
  offset : Byte
  timeoutClass : Fin 4
  conditioning : Byte
  absorb : Bool
  watch : Bool
  deriving DecidableEq, Repr

/-- A Route Cache slot (R26): each state with the fields it holds. EMPTY and FILLING slots have no references. -/
inductive CacheSlot where
  | empty
  | filling (unit : Byte) (mark : Bool) (waiters : List Tag)
  | valid (unit : Byte) (route : Route) (refs : Nat)
  | stale (unit : Byte) (route : Route) (refs : Nat)
  deriving DecidableEq, Repr

/-- The Route Cache: 32 slots and the recency order of the VALID ones, most recent first (R26, R33). -/
structure RouteCache where
  slots : Vector CacheSlot 32
  recency : List SlotNo
  deriving DecidableEq, Repr

/-- R28. -/
def RouteCache.reset : RouteCache where
  slots := Vector.replicate 32 .empty
  recency := []

/-! ## The Policy Unit (spec/03) -/

/-- A decoded policy action (R47). -/
inductive Action where
  | pass | illegal | busy | localAnswer
  deriving DecidableEq, Repr

/-- The activation state with the next chunk and the running undecodable count of a RUNNING activation (R57). Whether the chunk read is in progress stands at the read port (log 16). -/
inductive Activation where
  | idle
  | running (next : Fin 32) (bad : Nat)
  deriving DecidableEq, Repr

/-- The Policy Unit (R47, R57). Row k of the image holds the 64 actions of chunk k: the class k divided by 2, fetch for even k and store for odd k (R48). -/
structure PolicyUnit where
  image : Vector (Vector Action 64) 32
  activation : Activation
  undecodable : Nat
  generation : Byte
  held : List Tag
  deriving DecidableEq, Repr

/-- R57, power-on. The image, the undecodable count and the generation before the first load are DESIGN CHOICE (log 8). -/
def PolicyUnit.reset : PolicyUnit where
  image := Vector.replicate 32 (Vector.replicate 64 .pass)
  activation := .idle
  undecodable := 0
  generation := 0
  held := []

/-! ## The branch ports (spec/04) -/

/-- The port states (R67). -/
inductive PortState where
  | disabled | enabled | draining | shutDown
  deriving DecidableEq, Repr

/-- The kinds of a queue entry and of an exchange (R71, R73). -/
inductive EntryKind where
  | unit | member
  deriving DecidableEq, Repr

/-- An entry of a Branch Queue (R71). -/
structure QueueEntry where
  tag : Tag
  kind : EntryKind
  deriving DecidableEq, Repr

/-- The current exchange record (R73). -/
structure Exchange where
  kind : EntryKind
  orphan : Bool
  tag : Option Tag
  physUnit : Byte
  op : ReqOp
  physChannel : Byte
  length : Byte
  payload : List Byte
  timeoutClass : Option (Fin 4)
  slot : Option SlotNo
  attempt : Nat
  seq : BitVec 4
  last : Bool
  deriving DecidableEq, Repr

/-- The exchange state with the current exchange, which is present in SENDING and WAITING and absent in IDLE (R66). -/
inductive ExchangeState where
  | idle
  | sending (x : Exchange)
  | waiting (x : Exchange)
  deriving DecidableEq, Repr

/-- A branch port (R66). -/
structure BranchPort where
  state : PortState
  queue : List QueueEntry
  exchange : ExchangeState
  nextSeq : BitVec 4
  echoFaults : Nat
  responseTimer : Option Nat
  watchdog : Option Nat
  deriving DecidableEq, Repr

/-- R92, power-on and soft reset. -/
def BranchPort.reset : BranchPort where
  state := .disabled
  queue := []
  exchange := .idle
  nextSeq := 0
  echoFaults := 0
  responseTimer := none
  watchdog := none

/-! ## The Unit Status Table (spec/05) -/

/-- A unit record (R93); an absent last outcome is NONE. -/
structure UnitRecord where
  lastOutcome : Option OutcomeCode
  status : Option Byte
  changed : Bool
  deriving DecidableEq, Repr

/-- R104. -/
def UnitRecord.reset : UnitRecord where
  lastOutcome := none
  status := none
  changed := false

/-- The Unit Status Table: the record of unit u at place u less one, the Change List head first, and the change overflow flag (R93, R97). -/
structure UnitStatusTable where
  units : Vector UnitRecord 239
  changes : List Byte
  overflow : Bool
  deriving DecidableEq, Repr

/-- R104. -/
def UnitStatusTable.reset : UnitStatusTable where
  units := Vector.replicate 239 UnitRecord.reset
  changes := []
  overflow := false

/-! ## The Invalidation Queue Engine (spec/06) -/

/-- An invalidation descriptor (R105). The kind is held as the code supplied. -/
structure Descriptor where
  kind : Byte
  first : Byte
  count : Byte
  notify : Bool
  seq : Byte
  deriving DecidableEq, Repr

/-- The engine states (R109). -/
inductive EngineState where
  | idle | running | waitingFence | error
  deriving DecidableEq, Repr

/-- The last-completion record (R115). -/
structure Completion where
  seq : Byte
  requested : Byte
  performed : Byte
  deriving DecidableEq, Repr

/-- The error record (R112). -/
structure ErrorRecord where
  seq : Byte
  kind : Byte
  deriving DecidableEq, Repr

/-- The Invalidation Queue Engine (R106, R107, R109). -/
structure InvalidationEngine where
  queue : List Descriptor
  state : EngineState
  nextSeq : Byte
  lastCompletion : Option Completion
  errorRecord : Option ErrorRecord
  deriving DecidableEq, Repr

/-- R122. -/
def InvalidationEngine.reset : InvalidationEngine where
  queue := []
  state := .idle
  nextSeq := 0
  lastCompletion := none
  errorRecord := none

/-! ## The Table Store (spec/07) -/

/-- A store operation with its target (R125). -/
inductive StoreOp where
  | program (address : Nat) (bytes : List Byte)
  | erase (sector : Nat)
  deriving DecidableEq, Repr

/-- An operation with the time it has run so far, in µs (R125, R126). -/
structure Operation where
  op : StoreOp
  ran : Nat
  deriving DecidableEq, Repr

/-- The owners of a suspension (R125). -/
inductive Owner where
  | management | auto
  deriving DecidableEq, Repr

/-- The suspend phase with its owner, which is present while the phase is not none (R125). -/
inductive SuspendPhase where
  | noSuspension
  | suspending (owner : Owner)
  | suspended (owner : Owner)
  deriving DecidableEq, Repr

/-- The reader of a read in progress (R136). A dropped read is one whose result is dropped when it arrives. -/
inductive Reader where
  | fill (slot : SlotNo)
  | droppedFill
  | storeRead
  | droppedStoreRead
  | chunk
  | droppedChunk
  | loader
  deriving DecidableEq, Repr

/-- The read in progress, with the bytes of the store at its beginning (R136). -/
structure PortRead where
  reader : Reader
  bytes : List Byte
  deriving DecidableEq, Repr

/-- How a fill waiting for the port was judged last (R137): eligible, waiting for a suspension, or waiting for the holdoff. -/
inductive FillWait where
  | eligible | forSuspension | forHoldoff
  deriving DecidableEq, Repr

/-- A fill waiting for the read port (R136, R137). -/
structure WaitingFill where
  slot : SlotNo
  unit : Byte
  wait : FillWait
  deriving DecidableEq, Repr

/-- A STORE-READ waiting for the read port (R141). -/
structure StoreReadRequest where
  address : Nat
  count : Nat
  deriving DecidableEq, Repr

/-- The Table Store (R125, R136). `contents` lists the bytes that do not hold the erased value, addresses rising (log 7). `refusedFills` are the refusals that have not reached the Route Cache yet (R34, R137). -/
structure TableStore where
  contents : List Host.Cell
  active : Option Operation
  suspended : Option Operation
  phase : SuspendPhase
  wel : Bool
  holdoff : Option Nat
  protection : Option (Fin 8 × Fin 8)
  lock : Bool
  reading : Option PortRead
  fills : List WaitingFill
  refusedFills : List SlotNo
  storeRead : Option StoreReadRequest
  deriving DecidableEq, Repr

/-- R144, power-on; the read port already serves the loader's first read, of a configuration record that lists nothing (R173, log 7). -/
def TableStore.reset : TableStore where
  contents := []
  active := none
  suspended := none
  phase := .noSuspension
  wel := false
  holdoff := none
  protection := none
  lock := false
  reading := some { reader := .loader, bytes := List.replicate 64 Config.erasedValue }
  fills := []
  refusedFills := []
  storeRead := none

/-! ## Fault Record File, Performance Monitor, Event Summary (spec/08) -/

/-- The eleven fault kinds (R146). -/
inductive FaultKind where
  | frameCheck | tagReuse | badRequest | noRoute | routeMalformed | policyIllegal
  | unitTimeout | unitError | portShut | iqError | configInvalid
  deriving DecidableEq, Repr

/-- A pending fault record (R145). -/
structure FaultRecord where
  kind : FaultKind
  unit : Option Byte
  branch : Option Branch
  tag : Option Tag
  detail : Byte
  repeats : Byte
  deriving DecidableEq, Repr

/-- The Fault Record File (R145). -/
structure FaultFile where
  records : Vector (Option FaultRecord) 8
  overflow : Bool
  firstPending : Option (Fin 8)
  deriving DecidableEq, Repr

/-- R156. -/
def FaultFile.reset : FaultFile where
  records := Vector.replicate 8 none
  overflow := false
  firstPending := none

/-- The Snapshot Bank (R151). -/
structure SnapshotBank where
  values : Vector Word 38
  saturated : Vector Bool 38
  number : Byte
  deriving DecidableEq, Repr

/-- The Performance Monitor (R150, R151): the live counters and the saturation set in the order of R150, the bank, and the time that remains of the interval, in µs. -/
structure PerformanceMonitor where
  live : Vector Word 38
  saturated : Vector Bool 38
  bank : SnapshotBank
  interval : Nat
  deriving DecidableEq, Repr

/-- R156. -/
def PerformanceMonitor.reset : PerformanceMonitor where
  live := Vector.replicate 38 0
  saturated := Vector.replicate 38 false
  bank := { values := Vector.replicate 38 0, saturated := Vector.replicate 38 false, number := 0 }
  interval := Config.intervalTime

/-- The Event Summary: the four latches and the event mask, a set bit masking its source (R153, R179). -/
structure EventSummary where
  fenceNotify : Bool
  storeDone : Bool
  portShut : Bool
  counterSaturated : Bool
  mask : Byte
  deriving DecidableEq, Repr

/-- R156. -/
def EventSummary.reset : EventSummary where
  fenceNotify := false
  storeDone := false
  portShut := false
  counterSaturated := false
  mask := 0

/-! ## Management Unit and Start-Up Loader (spec/10, spec/11) -/

/-- An entry of the Management Queue: a request that has not begun, or the command in execution, tagless after a trunk break (R164, R167). -/
inductive ManagementEntry where
  | waiting (tag : Tag)
  | executing (tag : Option Tag)
  deriving DecidableEq, Repr

/-- The Management Unit. `halted` names the RESET-BRIDGE reply that halts it (R171). -/
structure ManagementUnit where
  queue : List ManagementEntry
  halted : Option Tag
  deriving DecidableEq, Repr

/-- R164, R171. -/
def ManagementUnit.reset : ManagementUnit where
  queue := []
  halted := none

/-- The fields of the configuration record other than the event mask and the check (R172). -/
structure ConfigValues where
  enabled : Vector Bool 4
  broadcast : Vector Bool 4
  retryLimit : Vector (Fin 4) 4
  echoLimit : Vector (Fin 16) 4
  timeout : Vector Byte 4
  broadcastClass : Fin 16
  autoSuspend : Bool
  autoSnapshot : Bool
  protection : Option (Fin 8 × Fin 8)
  deriving DecidableEq, Repr

/-- The defaults of R172. -/
def ConfigValues.defaults : ConfigValues where
  enabled := Vector.replicate 4 false
  broadcast := Vector.replicate 4 false
  retryLimit := Vector.replicate 4 1
  echoLimit := Vector.replicate 4 4
  timeout := #v[10, 25, 50, 200]
  broadcastClass := 0
  autoSuspend := true
  autoSnapshot := true
  protection := none

/-- Where the live configuration came from (R169). -/
inductive ConfigSource where
  | record | defaults
  deriving DecidableEq, Repr

/-- The live configuration (R169); its event mask is the Event Summary's. -/
structure LiveConfig where
  values : ConfigValues
  source : ConfigSource
  modified : Bool
  deriving DecidableEq, Repr

/-- A valid configuration record: its fields and its event mask (R172). -/
structure LoadedRecord where
  values : ConfigValues
  mask : Byte
  deriving DecidableEq, Repr

/-- The loader state (R173). READING holds the number of the read in progress or next to begin (0 the record, k + 1 the policy chunk k), the judged record, absent for the defaults, and the undecodable bytes counted so far. -/
inductive LoaderState where
  | idle
  | waitStore
  | reading (next : Fin 33) (record : Option LoadedRecord) (bad : Nat)
  deriving DecidableEq, Repr

/-- The Start-Up Loader (R173). -/
structure StartUpLoader where
  state : LoaderState
  config : LiveConfig
  deriving DecidableEq, Repr

/-- R173, R175: after power-on the loader is READING and the defaults stand (source and modified: log 8). -/
def StartUpLoader.reset : StartUpLoader where
  state := .reading 0 none 0
  config := { values := ConfigValues.defaults, source := .defaults, modified := false }

end Sys2Proof.Machine

namespace Sys2Proof.Machine

/-- The state of the bridge, one field per block. `pending` is the queue of commands waiting, `powered` says whether power is applied (log 5), `powerLosses` counts power losses and indexes the free value of R143 (log 6). -/
structure State where
  pending : List Instr
  powered : Bool
  powerLosses : Nat
  tp : TrunkPort
  dsp : Dispatcher
  rc : RouteCache
  pu : PolicyUnit
  ports : Vector BranchPort 4
  ust : UnitStatusTable
  iqe : InvalidationEngine
  ts : TableStore
  frf : FaultFile
  pm : PerformanceMonitor
  es : EventSummary
  mu : ManagementUnit
  sul : StartUpLoader
  deriving DecidableEq, Repr

/-- The bridge right after power-on, with a Table Store in which nothing was ever written. -/
def State.reset : State where
  pending := []
  powered := true
  powerLosses := 0
  tp := TrunkPort.reset
  dsp := Dispatcher.reset
  rc := RouteCache.reset
  pu := PolicyUnit.reset
  ports := Vector.replicate 4 BranchPort.reset
  ust := UnitStatusTable.reset
  iqe := InvalidationEngine.reset
  ts := TableStore.reset
  frf := FaultFile.reset
  pm := PerformanceMonitor.reset
  es := EventSummary.reset
  mu := ManagementUnit.reset
  sul := StartUpLoader.reset

/-- The ways a command can stop the block: none. Every event of the spec has an answer, a discard or a fault record (R146), and those are data of State. -/
inductive Fault where
  deriving DecidableEq, Repr

/-- The ways a command can be without a meaning. -/
inductive Refusal where
  /-- Raised by an arm of `exec` whose command has no meaning yet; safe. -/
  | notModelled (mnemonic : String)
  deriving DecidableEq, Repr

end Sys2Proof.Machine
end

