-- ==== Sys2Proof/Machine/Ops.lean ====
section
/-!
DEFINITION. The named operations over the Table Store's bytes, the frame check, and the accessors of the numbered pieces of State (records, slots, ports, unit records), through which every meaning reads and writes them.
-/

namespace Sys2Proof.Machine

/-! ## Bytes -/

/-- The number as a byte (its value modulo 256). -/
def byteOf (n : Nat) : Byte := BitVec.ofNat 8 n

/-- A flag as a byte: 01h set, 00h clear. R180 states this code for flags that are parameters; for a flag that is a whole byte of reply data the spec states no code, and the model takes the same one (PRESUMED from R180's code for parameters, log 26). -/
def flagByte (b : Bool) : Byte := if b then 1 else 0

/-- A flag at a bit of a byte (R176). -/
def flagAt (n : Nat) (b : Bool) : Byte := if b then (1 : Byte) <<< n else 0

/-- Bit `n` of a byte (R176: a flag is set when its bit is 1). -/
def bitOf (n : Nat) (b : Byte) : Bool := b.getLsbD n

/-- A two-byte quantity, high byte first (R176). -/
def bytesOfWord (w : Word) : List Byte := [(w >>> 8).setWidth 8, w.setWidth 8]

/-- The number that two bytes give, high byte first (R176). -/
def addressOf (hi lo : Byte) : Nat := 256 * hi.toNat + lo.toNat

/-- Byte `n` of a list of bytes; the zero value when the list does not reach it (R176). -/
def byteAt (bytes : List Byte) (n : Nat) : Byte := bytes.getD n 0

/-! ## The frame check (R158) -/

/-- `n` shifts of the CRC register, generator x^16 + x^12 + x^5 + 1 (R158). -/
def crcBits : Nat → Word → Word
  | 0, r => r
  | n + 1, r => crcBits n (if r.getLsbD 15 then (r <<< 1) ^^^ 0x1021 else r <<< 1)

/-- One byte enters the CRC register, most significant bit first (R158). -/
def crcByte (r : Word) (b : Byte) : Word := crcBits 8 (r ^^^ ((b.setWidth 16) <<< 8))

/-- The 16-bit CRC over a list of bytes, from the value with all bits set (R158). -/
def crc (bytes : List Byte) : Word := bytes.foldl crcByte 0xFFFF

/-- A frame: the bytes followed by their check, high byte first (R158, R176). -/
def withCheck (bytes : List Byte) : List Byte := bytes ++ bytesOfWord (crc bytes)

/-- The bytes of a frame before its check. -/
def frameBody (frame : List Byte) : List Byte := frame.take (frame.length - 2)

/-- The last two bytes of a frame are the check of the bytes before them (R158). -/
def checkMatches (frame : List Byte) : Bool :=
  2 ≤ frame.length && frame.drop (frame.length - 2) = bytesOfWord (crc (frameBody frame))

/-! ## The bytes of the Table Store (R123, R124; log 7) -/

/-- The canonical form of the store's contents: addresses strictly rising and in the store, and no cell holding the erased value. -/
abbrev Memory.wf (m : List Host.Cell) : Prop :=
  m.Pairwise (fun c d => c.1 < d.1) ∧ ∀ c ∈ m, c.1 < Config.storeBytes ∧ c.2 ≠ Config.erasedValue

/-- The byte of the store at an address. An unlisted address reads as the erased value (log 7). -/
def readByte : List Host.Cell → Nat → Byte
  | [], _ => Config.erasedValue
  | c :: m, a => if c.1 = a then c.2 else readByte m a

/-- A cell put in its place in rising order. -/
def putCell (a : Nat) (v : Byte) : List Host.Cell → List Host.Cell
  | [] => [(a, v)]
  | c :: m => if a < c.1 then (a, v) :: c :: m else if a = c.1 then (a, v) :: m else c :: putCell a v m

/-- A byte of the store is given a value; an address outside the store does not exist (R123). -/
def writeByte (m : List Host.Cell) (a : Nat) (v : Byte) : List Host.Cell :=
  if a < Config.storeBytes then
    if v = Config.erasedValue then m.filter (fun c => c.1 ≠ a) else putCell a v m
  else m

/-- `n` bytes of the store from an address (R136). -/
def readBytes (m : List Host.Cell) (a n : Nat) : List Byte := (List.range n).map (fun i => readByte m (a + i))

/-- The bytes from an address become the AND of their old values and the bytes programmed, where `chosen` says so (R124). -/
def programBytes (chosen : Nat → Bool) : List Host.Cell → Nat → List Byte → List Host.Cell
  | m, _, [] => m
  | m, a, b :: bs =>
    programBytes chosen (if chosen a then writeByte m a (readByte m a &&& b) else m) (a + 1) bs

/-- Every byte of a sector becomes the erased value, where `chosen` says so (R124). -/
def eraseBytes (chosen : Nat → Bool) (m : List Host.Cell) (sector : Nat) : List Host.Cell :=
  m.filter (fun c => !(c.1 / Config.sectorBytes == sector && chosen c.1))

/-- The target of an operation takes its target value, where `chosen` says so (R124, R143). -/
def applyOp (chosen : Nat → Bool) (m : List Host.Cell) : StoreOp → List Host.Cell
  | .program a bs => programBytes chosen m a bs
  | .erase k => eraseBytes chosen m k

/-- The sector of an operation: that of its page for a program (R125). -/
def StoreOp.sector : StoreOp → Nat
  | .program a _ => a / Config.sectorBytes
  | .erase k => k

/-- The page of an operation within its sector: the zero value for an erase (R123, R142). -/
def StoreOp.page : StoreOp → Nat
  | .program a _ => a % Config.sectorBytes / Config.pageBytes
  | .erase _ => 0

/-! ## The numbered pieces of State -/

/-- The transaction record under a tag (R1). -/
def State.tag (s : State) (t : Tag) : TagRecord := s.dsp.tags[t.val]

/-- The state with a transaction record changed. -/
def State.setTag (s : State) (t : Tag) (r : TagRecord) : State :=
  { s with dsp := { s.dsp with tags := s.dsp.tags.set t.val r } }

/-- A Route Cache slot (R26). -/
def State.slot (s : State) (i : SlotNo) : CacheSlot := s.rc.slots[i.val]

/-- The state with a Route Cache slot changed. -/
def State.setSlot (s : State) (i : SlotNo) (c : CacheSlot) : State :=
  { s with rc := { s.rc with slots := s.rc.slots.set i.val c } }

/-- The state with the recency order changed (R33). -/
def State.setRecency (s : State) (l : List SlotNo) : State := { s with rc := { s.rc with recency := l } }

/-- A branch port (R66). -/
def State.port (s : State) (b : Branch) : BranchPort := s.ports[b.val]

/-- The state with a branch port changed. -/
def State.setPort (s : State) (b : Branch) (p : BranchPort) : State := { s with ports := s.ports.set b.val p }

/-- The live configuration's values (R169). -/
def State.config (s : State) : ConfigValues := s.sul.config.values

/-- The exchange of an exchange state, if there is one (R66). -/
def ExchangeState.current : ExchangeState → Option Exchange
  | .idle => none
  | .sending x => some x
  | .waiting x => some x

/-- The references of a slot (R26). -/
def CacheSlot.refs : CacheSlot → Nat
  | .valid _ _ n => n
  | .stale _ _ n => n
  | _ => 0

/-- The refill mark of a slot (R26). -/
def CacheSlot.marked : CacheSlot → Bool
  | .filling _ m _ => m
  | _ => false

/-- The virtual unit of a slot; the zero value when it is EMPTY (R26, R46). -/
def CacheSlot.unit : CacheSlot → Byte
  | .empty => 0
  | .filling u _ _ => u
  | .valid u _ _ => u
  | .stale u _ _ => u

/-- The route a slot holds (R26). -/
def CacheSlot.route : CacheSlot → Option Route
  | .valid _ r _ => some r
  | .stale _ r _ => some r
  | _ => none

/-- A unit of the Unit Status Table is one of 1 to 239 (R93). -/
def isUnit (u : Byte) : Bool := 1 ≤ u.toNat && u.toNat ≤ 239

/-- The place of a unit's record in the Unit Status Table (R93). -/
def unitIndex (u : Byte) : Option (Fin 239) :=
  if h : 1 ≤ u.toNat ∧ u.toNat ≤ 239 then some ⟨u.toNat - 1, by omega⟩ else none

/-- The record of a unit (R93); a unit that has no record reads as one never updated. -/
def UnitStatusTable.record (t : UnitStatusTable) (u : Byte) : UnitRecord :=
  match unitIndex u with
  | some i => t.units[i.val]
  | none => UnitRecord.reset

/-- The table with the record of a unit changed; a unit that has no record changes nothing. -/
def UnitStatusTable.setRecord (t : UnitStatusTable) (u : Byte) (r : UnitRecord) : UnitStatusTable :=
  match unitIndex u with
  | some i => { t with units := t.units.set i.val r }
  | none => t

/-! ## Steps -/

/-- An event of the bridge: it acts while power is applied, and changes nothing without power (log 5). -/
def event (s : State) (body : State) : Host.Outcome State Fault Refusal :=
  .next (if s.powered then body else s)

end Sys2Proof.Machine
end

