-- ==== Sys2Proof/Machine/Clock.lean ====
section
/-!
DEFINITION. The passing of time (log 4): one microsecond, which the step on an empty queue lets pass. Running clocks age; no clock acts by itself, since its expiry is a command of its own.
-/

namespace Sys2Proof.Machine

/-- A clock that runs down, stopped or running with the time that remains. -/
def runDown (c : Option Nat) : Option Nat := c.map (· - 1)

/-- The longest running time of an operation (R126). -/
def StoreOp.maxTime : StoreOp → Nat
  | .program _ _ => Config.programMax
  | .erase _ => Config.eraseMax

/-- The running time of the active operation accrues (R126). -/
def Operation.age (o : Operation) : Operation := { o with ran := min (o.ran + 1) o.op.maxTime }

/-- The clocks of a port (R66). -/
def BranchPort.age (p : BranchPort) : BranchPort :=
  { p with responseTimer := runDown p.responseTimer, watchdog := runDown p.watchdog }

/-- The clocks of the Table Store (R125). -/
def TableStore.age (t : TableStore) : TableStore :=
  { t with active := t.active.map Operation.age, holdoff := runDown t.holdoff }

/-- The times of the trunk line: for how long the line has been in break (R162), and the receiver RECEIVING (R159). -/
def TrunkPort.age (t : TrunkPort) : TrunkPort :=
  { t with
    breakTimer := t.breakTimer.map fun n => min (n + 1) Config.breakTime
    openFor := if t.receiver = .receiving then t.openFor + 1 else t.openFor }

/-- One microsecond passes; without power nothing changes. -/
def tick (s : State) : State :=
  if s.powered then
    { s with
      tp := s.tp.age
      ports := Vector.ofFn fun b => s.ports[b.val].age
      ts := s.ts.age
      pm := { s.pm with interval := s.pm.interval - 1 } }
  else s

end Sys2Proof.Machine
end

