-- ==== Sys2Proof/Machine/Flags.lean ====
section
/-!
DEFINITION. The flags and counters that every block feeds: the live counters with their saturation (R150), the event sources and latches (R153), and the ATTENTION decision (R155).
-/

namespace Sys2Proof.Machine

/-- The seven counters of a branch, in the order of R150. -/
inductive BranchCounter where
  | exchanges | goodReplies | timeouts | badReplies | echoFaults | lateReplies | retries
  deriving DecidableEq, Repr

/-- The five counters of the trunk group, in the order of R150. -/
inductive TrunkCounter where
  | framesReceived | frameCheckErrors | intakeDiscards | breaks | tagReuses
  deriving DecidableEq, Repr

/-- The five counters of the bridge group, in the order of R150. -/
inductive BridgeCounter where
  | cacheHits | cacheMisses | policyRefusals | localAnswers | storeBusyRefusals
  deriving DecidableEq, Repr

/-- The 38 counters (R150). -/
inductive Counter where
  | branch (b : Branch) (c : BranchCounter)
  | trunk (c : TrunkCounter)
  | bridge (c : BridgeCounter)
  deriving DecidableEq, Repr

/-- The place of a branch counter within its group (R150). -/
def BranchCounter.place : BranchCounter → Fin 7
  | .exchanges => 0
  | .goodReplies => 1
  | .timeouts => 2
  | .badReplies => 3
  | .echoFaults => 4
  | .lateReplies => 5
  | .retries => 6

/-- The place of a trunk counter within its group (R150). -/
def TrunkCounter.place : TrunkCounter → Fin 5
  | .framesReceived => 0
  | .frameCheckErrors => 1
  | .intakeDiscards => 2
  | .breaks => 3
  | .tagReuses => 4

/-- The place of a bridge counter within its group (R150). -/
def BridgeCounter.place : BridgeCounter → Fin 5
  | .cacheHits => 0
  | .cacheMisses => 1
  | .policyRefusals => 2
  | .localAnswers => 3
  | .storeBusyRefusals => 4

/-- The place of a counter among the 38, in the order of R150. -/
def Counter.place : Counter → Fin 38
  | .branch b c => ⟨7 * b.val + c.place.val, by omega⟩
  | .trunk c => ⟨28 + c.place.val, by omega⟩
  | .bridge c => ⟨33 + c.place.val, by omega⟩

/-- The largest value of a counter (R150). -/
def counterMax : Word := 0xFFFF

/-- A counter advances by one in the live counters (R150): at 65535 it stays. -/
def PerformanceMonitor.advance (m : PerformanceMonitor) (c : Counter) : PerformanceMonitor :=
  let i := c.place.val
  let v := m.live[i]
  if v = counterMax then m
  else
    { m with
      live := m.live.set i (v + 1)
      saturated := if v + 1 = counterMax then m.saturated.set i true else m.saturated }

/-- This advance brings the counter to 65535 (R150). -/
def PerformanceMonitor.saturates (m : PerformanceMonitor) (c : Counter) : Bool :=
  m.live[c.place.val] + 1 = counterMax

/-- A counter advances by one; the advance that brings it to 65535 enters it in the saturation set and latches COUNTER-SATURATED (R150). -/
def count (c : Counter) (s : State) : State :=
  { s with
    pm := s.pm.advance c
    es := { s.es with counterSaturated := s.es.counterSaturated || s.pm.saturates c } }

/-! ## Event sources (R153) -/

/-- Some fault record is pending (R147). -/
def FaultFile.anyPending (f : FaultFile) : Bool := (List.finRange 8).any (fun i => f.records[i.val].isSome)

/-- The number of pending fault records (R149). -/
def FaultFile.pendingCount (f : FaultFile) : Nat :=
  ((List.finRange 8).filter (fun i => f.records[i.val].isSome)).length

/-- FAULT-PENDING is present (R147). -/
def faultPending (s : State) : Bool := s.frf.anyPending

/-- FAULT-OVERFLOW is present (R147). -/
def faultOverflow (s : State) : Bool := s.frf.overflow

/-- CHANGE-PENDING is present (R102). -/
def changePending (s : State) : Bool := !s.ust.changes.isEmpty || s.ust.overflow

/-- IQ-ERROR is present (R112). -/
def iqError (s : State) : Bool := s.iqe.state = .error

/-- The eight presences, bit by bit in the order of the mask (R153, R179). -/
def presences (s : State) : Byte :=
  flagAt 0 (faultPending s) ||| flagAt 1 (faultOverflow s) ||| flagAt 2 (changePending s) ||| flagAt 3 (iqError s) |||
  flagAt 4 s.es.fenceNotify ||| flagAt 5 s.es.storeDone ||| flagAt 6 s.es.portShut ||| flagAt 7 s.es.counterSaturated

/-- ATTENTION: an event source that is not masked is present (R155). -/
def attention (s : State) : Bool := presences s &&& ~~~s.es.mask != 0

/-- FENCE-NOTIFY is latched if asked for (R116). -/
def latchFenceNotify (notify : Bool) (s : State) : State :=
  { s with es := { s.es with fenceNotify := s.es.fenceNotify || notify } }

/-- STORE-DONE is latched (R126). -/
def latchStoreDone (s : State) : State := { s with es := { s.es with storeDone := true } }

/-- PORT-SHUT is latched (R78). -/
def latchPortShut (s : State) : State := { s with es := { s.es with portShut := true } }

end Sys2Proof.Machine
end

