-- ==== Sys2Proof/Machine/Faults.lean ====
section
/-!
DEFINITION. The Fault Record File (R145 to R149): the report of a fault and the clearing of records.
-/

namespace Sys2Proof.Machine

/-- The collapse key of a fault (R145): the kind with the unit when it is present, otherwise with the branch. -/
structure FaultKey where
  kind : FaultKind
  unit : Option Byte
  branch : Option Branch
  deriving DecidableEq, Repr

/-- The collapse key of a fault (R145). -/
def FaultRecord.key (r : FaultRecord) : FaultKey :=
  match r.unit with
  | some u => { kind := r.kind, unit := some u, branch := none }
  | none => { kind := r.kind, unit := none, branch := r.branch }

/-- The record whose collapse key is the given one (R147, case 1). -/
def FaultFile.withKey (f : FaultFile) (k : FaultKey) : Option (Fin 8) :=
  (List.finRange 8).find? fun i => f.records[i.val].map FaultRecord.key = some k

/-- The lowest-numbered free record (R147, case 2). -/
def FaultFile.lowestFree (f : FaultFile) : Option (Fin 8) :=
  (List.finRange 8).find? fun i => f.records[i.val].isNone

/-- One more occurrence collapsed into a record; the count is held at 255 (R145, R147). -/
def FaultRecord.again (r : FaultRecord) : FaultRecord :=
  { r with repeats := if r.repeats = 0xFF then 0xFF else r.repeats + 1 }

/-- A fault is reported to the file (R147): it collapses, takes the lowest free record, or is lost with the overflow flag set. -/
def FaultFile.report (f : FaultFile) (r : FaultRecord) : FaultFile :=
  match f.withKey r.key with
  | some i => { f with records := f.records.set i.val (f.records[i.val].map FaultRecord.again) }
  | none =>
    match f.lowestFree with
    | some i =>
      { f with
        records := f.records.set i.val (some { r with repeats := 0 })
        firstPending := if f.anyPending then f.firstPending else some i }
    | none => { f with overflow := true }

/-- One pending record is freed, and the index that names it becomes none; a free record stays as it is (R149). -/
def FaultFile.clearOne (f : FaultFile) (i : Fin 8) : FaultFile :=
  if f.records[i.val].isSome then
    { f with
      records := f.records.set i.val none
      firstPending := if f.firstPending = some i then none else f.firstPending }
  else f

/-- A fault of the bridge is recorded, in the event that detects it (R146). -/
def recordFault (r : FaultRecord) (s : State) : State := { s with frf := s.frf.report r }

/-- A fault record with no unit, branch, tag or detail (R146). -/
def FaultRecord.plain (k : FaultKind) : FaultRecord :=
  { kind := k, unit := none, branch := none, tag := none, detail := 0, repeats := 0 }

end Sys2Proof.Machine
end

