-- ==== Sys2Proof/Machine/Operands.lean ====
section
/-!
DEFINITION. The layouts and codes of spec/12: trunk and branch frames, the stored records, management parameters and reply data, each decoded or built in one place.
-/

namespace Sys2Proof.Machine

/-! ## Codes (R177 to R180) -/

/-- The ops of a request (R177). -/
def ReqOp.code : ReqOp → Byte
  | .read => 0x01
  | .write => 0x02
  | .exchange => 0x03
  | .queryLast => 0x04

/-- The op an op byte names; an undefined code names none (R176, R177). -/
def ReqOp.ofCode (b : Byte) : Option ReqOp :=
  if b = 0x01 then some .read else if b = 0x02 then some .write
  else if b = 0x03 then some .exchange else if b = 0x04 then some .queryLast else none

/-- The outcome codes (R177). -/
def OutcomeCode.code : OutcomeCode → Byte
  | .done => 0x00
  | .doneLocal => 0x01
  | .refusedIllegal => 0x02
  | .refusedBusy => 0x03
  | .badRequest => 0x04
  | .noRoute => 0x05
  | .storeBusy => 0x06
  | .portDown => 0x07
  | .unitTimeout => 0x08
  | .unitError => 0x09
  | .unitReject => 0x0A
  | .unitBusy => 0x0B
  | .cancelled => 0x0C
  | .broadcastPartial => 0x0D

/-- The last outcome of a unit record as a byte; NONE is FFh (R177). -/
def lastOutcomeCode : Option OutcomeCode → Byte
  | some o => o.code
  | none => 0xFF

/-- The results of a management command (R165). -/
inductive ResultCode where
  | accepted | unknownCommand | badParameter | busy | notEnabled | isProtected | queueFull | wrongState | notCancellable
  deriving DecidableEq, Repr

/-- The result codes (R180). -/
def ResultCode.code : ResultCode → Byte
  | .accepted => 0x00
  | .unknownCommand => 0x01
  | .badParameter => 0x02
  | .busy => 0x03
  | .notEnabled => 0x04
  | .isProtected => 0x05
  | .queueFull => 0x06
  | .wrongState => 0x07
  | .notCancellable => 0x08

/-- The fault kinds' codes, in the order of R146 (R180). -/
def FaultKind.code : FaultKind → Byte
  | .frameCheck => 0x01
  | .tagReuse => 0x02
  | .badRequest => 0x03
  | .noRoute => 0x04
  | .routeMalformed => 0x05
  | .policyIllegal => 0x06
  | .unitTimeout => 0x07
  | .unitError => 0x08
  | .portShut => 0x09
  | .iqError => 0x0A
  | .configInvalid => 0x0B

/-- The descriptor kind codes (R180). -/
def kindUnit : Byte := 0x01
/-- RANGE (R180). -/
def kindRange : Byte := 0x02
/-- ALL (R180). -/
def kindAll : Byte := 0x03
/-- FENCE (R180). -/
def kindFence : Byte := 0x04

/-- The detail of a PORT-SHUT fault caused by the echo check (R180). -/
def detailEcho : Byte := 0x01
/-- The detail of a PORT-SHUT fault caused by the watchdog (R180). -/
def detailWatchdog : Byte := 0x02

/-! ## Trunk frames (R177) -/

/-- The fields of a trunk frame as received; `size` is the number of its bytes, check included. Fields that a short frame does not reach take the zero value (R176). -/
structure RequestFrame where
  kind : Byte
  tag : Tag
  unit : Byte
  opCode : Byte
  channel : Byte
  length : Byte
  payload : List Byte
  size : Nat
  deriving DecidableEq, Repr

/-- A trunk request frame decoded from its check-passed bytes (R176, R177). -/
def decodeRequest (frame : List Byte) : RequestFrame :=
  let body := frameBody frame
  { kind := byteAt body 0 >>> 4
    tag := Fin.ofNat 16 (byteAt body 0).toNat
    unit := byteAt body 1
    opCode := byteAt body 2
    channel := byteAt body 3
    length := byteAt body 4
    payload := body.drop 5
    size := frame.length }

/-- The length field and the payload bytes agree with the op and the unit (R5, R176: the count of payload bytes is the frame's size less 7). -/
def RequestFrame.lengthAgrees (r : RequestFrame) : Bool :=
  if r.unit = 0 then r.length.toNat ≤ Config.payloadMax && r.size == r.length.toNat + 7
  else
    match ReqOp.ofCode r.opCode with
    | some .read => 1 ≤ r.length.toNat && r.length.toNat ≤ Config.payloadMax && r.size == 7
    | some .write => 1 ≤ r.length.toNat && r.length.toNat ≤ Config.payloadMax && r.size == r.length.toNat + 7
    | some .exchange => 1 ≤ r.length.toNat && r.length.toNat ≤ Config.payloadMax && r.size == r.length.toNat + 7
    | some .queryLast => r.length == 0 && r.size == 7
    | none => false

/-- The request is bad: one of the seven conditions of R5 holds. -/
def RequestFrame.isBad (r : RequestFrame) : Bool :=
  r.kind != 0x1 ||
  (240 ≤ r.unit.toNat && r.unit.toNat ≤ 254) ||
  (ReqOp.ofCode r.opCode).isNone ||
  63 < r.channel.toNat ||
  !r.lengthAgrees ||
  (r.unit == 0xFF && ReqOp.ofCode r.opCode != some .write)

/-- The response frame of a response, with ATTENTION as stamped and its check (R21, R160, R177). -/
def responseFrame (attention : Bool) (r : Response) : List Byte :=
  withCheck
    ([0x20 ||| byteOf r.tag.val, r.unit, r.outcome.code, flagAt 7 attention ||| flagAt 6 r.status.isSome,
      r.status.getD 0, byteOf r.payload.length] ++ r.payload)

/-! ## Branch frames (R178) -/

/-- The bytes of a command frame that carry data: none for a READ (R75). -/
def Exchange.sentPayload (x : Exchange) : List Byte := if x.op = .read then [] else x.payload

/-- The command frame of the attempt in progress, with its check (R75, R178). -/
def commandFrame (x : Exchange) : List Byte :=
  withCheck
    ([0x50 ||| x.seq.setWidth 8, x.physUnit, x.op.code, x.physChannel, x.length] ++ x.sentPayload)

/-- How a frame heard in WAITING is judged (R83): bad, late, or well-formed with its reply code, unit status and payload. -/
inductive Heard where
  | bad
  | late
  | wellFormed (code : Byte) (status : Byte) (payload : List Byte)
  deriving DecidableEq, Repr

/-- The count of payload bytes that a well-formed reply carries (R83, check 5). -/
def Exchange.replyLength (x : Exchange) (code : Byte) : Nat :=
  if code = 0x00 then
    match x.op with
    | .read => x.length.toNat
    | .exchange => x.length.toNat
    | _ => 0
  else 0

/-- Checks 1 to 5 of R83, in the positions of R178. A branch frame shorter than 7 bytes fails (R176). -/
def replyAcceptable (x : Exchange) (frame : List Byte) : Bool :=
  let body := frameBody frame
  Config.branchFrameMin ≤ frame.length &&
  checkMatches frame &&
  byteAt body 0 >>> 4 == 0x6 &&
  (byteAt body 2 == 0x00 || byteAt body 2 == 0x01 || byteAt body 2 == 0x02) &&
  byteAt body 1 == x.physUnit &&
  frame.length == (byteAt body 4).toNat + 7 &&
  (byteAt body 4).toNat == x.replyLength (byteAt body 2)

/-- A complete frame heard in WAITING checked against the current attempt (R83). -/
def judgeReply (x : Exchange) (frame : List Byte) : Heard :=
  let body := frameBody frame
  if replyAcceptable x frame then
    if (byteAt body 0).setWidth 4 = x.seq then .wellFormed (byteAt body 2) (byteAt body 3) (body.drop 5) else .late
  else .bad

/-! ## Stored records (R179) -/

/-- What a fill's 16 bytes hold (R25). -/
inductive RouteEntry where
  | present (route : Route)
  | absent
  | malformed
  deriving DecidableEq, Repr

/-- The service state a code names (R179). -/
def ServiceState.ofCode (b : Byte) : Option ServiceState :=
  if b = 0x01 then some .inService else if b = 0x02 then some .oosLocal else if b = 0x03 then some .oosRefuse else none

/-- The coded fields of a route entry under the valid marker: present when every field is in its range (R25, R179). -/
def decodeFields (e : List Byte) : RouteEntry :=
  match ServiceState.ofCode (byteAt e 3) with
  | none => .malformed
  | some service =>
    if (byteAt e 1).toNat ≤ 3 ∧ 1 ≤ (byteAt e 2).toNat ∧ (byteAt e 2).toNat ≤ 62 ∧ (byteAt e 4).toNat ≤ 15 ∧
        (byteAt e 5).toNat ≤ 63 ∧ (byteAt e 6).toNat ≤ 3 then
      .present
        { branch := Fin.ofNat 4 (byteAt e 1).toNat
          physUnit := byteAt e 2
          service := service
          policyClass := Fin.ofNat 16 (byteAt e 4).toNat
          offset := byteAt e 5
          timeoutClass := Fin.ofNat 4 (byteAt e 6).toNat
          conditioning := byteAt e 7
          absorb := bitOf 0 (byteAt e 8)
          watch := bitOf 1 (byteAt e 8) }
    else .malformed

/-- A route entry decoded from its 16 bytes, the marker first (R25, R179). -/
def decodeRoute (e : List Byte) : RouteEntry :=
  if byteAt e 0 = 0xFF ∨ byteAt e 0 = 0x00 then .absent
  else if byteAt e 0 = 0xA5 then decodeFields e
  else .malformed

/-- The store address of a unit's route entry (R23). -/
def routeAddress (unit : Byte) : Nat := 16 * unit.toNat

/-- The sector of a unit's route entry (R23). -/
def routeSector (unit : Byte) : Nat := unit.toNat / 64

/-- A stored policy byte as an action; an undecodable byte is ILLEGAL (R49). -/
def decodeAction (b : Byte) : Action :=
  if b = 0x00 then .pass else if b = 0x02 then .busy else if b = 0x03 then .localAnswer else .illegal

/-- A policy byte that is none of the four codes (R49). -/
def undecodable (b : Byte) : Bool := 3 < b.toNat

/-- The 64 actions of a chunk (R60). -/
def decodeChunk (bytes : List Byte) : Vector Action 64 := Vector.ofFn fun i => decodeAction (byteAt bytes i.val)

/-- The undecodable bytes of a chunk (R60). -/
def undecodableCount (bytes : List Byte) : Nat := (bytes.filter undecodable).length

/-- The store address of policy chunk k (R48). -/
def chunkAddress (k : Nat) : Nat := 4 * Config.sectorBytes + 64 * k

/-- The store address of the configuration record (R172). -/
def recordAddress : Nat := 6 * Config.sectorBytes

/-- A configuration record's protection fields: absent when they are not valid (R172). -/
def decodeProtection (kind first last : Byte) : Option (Option (Fin 8 × Fin 8)) :=
  if kind = 0x00 then some none
  else if kind = 0x01 ∧ first.toNat ≤ last.toNat ∧ last.toNat ≤ 7 then
    some (some (Fin.ofNat 8 first.toNat, Fin.ofNat 8 last.toNat))
  else none

/-- The fields of a configuration record lie within their valid values; protection is judged by `decodeProtection` (R172). -/
def recordInRange (r : List Byte) : Bool :=
  (List.range 4).all (fun n => (byteAt r (2 + n)).toNat ≤ 3) &&
  (List.range 4).all (fun n => 1 ≤ (byteAt r (6 + n)).toNat && (byteAt r (6 + n)).toNat ≤ 15) &&
  (List.range 4).all (fun n => 1 ≤ (byteAt r (10 + n)).toNat) &&
  (byteAt r 14).toNat ≤ 15

/-- The values of a configuration record's fields (R179). -/
def recordValues (r : List Byte) (protection : Option (Fin 8 × Fin 8)) : ConfigValues where
  enabled := Vector.ofFn fun n => bitOf n.val (byteAt r 0)
  broadcast := Vector.ofFn fun n => bitOf n.val (byteAt r 1)
  retryLimit := Vector.ofFn fun n => Fin.ofNat 4 (byteAt r (2 + n.val)).toNat
  echoLimit := Vector.ofFn fun n => Fin.ofNat 16 (byteAt r (6 + n.val)).toNat
  timeout := Vector.ofFn fun n => byteAt r (10 + n.val)
  broadcastClass := Fin.ofNat 16 (byteAt r 14).toNat
  autoSuspend := bitOf 0 (byteAt r 15)
  autoSnapshot := bitOf 1 (byteAt r 15)
  protection := protection

/-- The configuration record judged as a whole: its values when it is valid (R172). -/
def decodeRecord (r : List Byte) : Option LoadedRecord :=
  match decodeProtection (byteAt r 17) (byteAt r 18) (byteAt r 19) with
  | none => none
  | some protection =>
    if r.drop 62 = bytesOfWord (crc (r.take 62)) ∧ recordInRange r = true ∧ r.all (· == Config.erasedValue) = false then
      some { values := recordValues r protection, mask := byteAt r 16 }
    else none

/-! ## Management parameters and reply data (R180) -/

/-- A set-or-clear parameter: 01h set, 00h clear, any other value none (R180). -/
def flagParameter (b : Byte) : Option Bool :=
  if b = 0x01 then some true else if b = 0x00 then some false else none

/-- The protection range as the three bytes kind, first and last (R180). With kind NONE, R172 states the zero value for first and last in READ-CONFIG; for STORE-STATUS the spec states no value, and the model sends the same (PRESUMED from R172, log 27). -/
def protectionBytes : Option (Fin 8 × Fin 8) → List Byte
  | none => [0x00, 0x00, 0x00]
  | some (f, l) => [0x01, byteOf f.val, byteOf l.val]

/-- A flag per branch as a byte, bit n for branch n (R179). -/
def branchBits (v : Vector Bool 4) : Byte := flagAt 0 v[0] ||| flagAt 1 v[1] ||| flagAt 2 v[2] ||| flagAt 3 v[3]

/-- Configuration bytes 0 to 19 as READ-CONFIG reports them, byte 16 the current mask (R169, R180). -/
def configBytes (c : ConfigValues) (mask : Byte) : List Byte :=
  [branchBits c.enabled, branchBits c.broadcast] ++
  c.retryLimit.toList.map (fun n => byteOf n.val) ++
  c.echoLimit.toList.map (fun n => byteOf n.val) ++
  c.timeout.toList ++
  [byteOf c.broadcastClass.val, flagAt 0 c.autoSuspend ||| flagAt 1 c.autoSnapshot, mask] ++
  protectionBytes c.protection

/-- A fault record as the five bytes of FAULT-READ (R148, R180). Of an absent tag R180 states bit 4 clear, and no value for bits 3 to 0; the model sends 0 there (DESIGN CHOICE, log 28). -/
def FaultRecord.bytes (r : FaultRecord) : List Byte :=
  [r.kind.code, r.unit.getD 0,
    (match r.branch with
      | some b => byteOf b.val <<< 5
      | none => 0xE0) |||
    (match r.tag with
      | some t => 0x10 ||| byteOf t.val
      | none => 0x00),
    r.detail, r.repeats]

/-- A port state's code (R180). -/
def PortState.code : PortState → Byte
  | .disabled => 0x00
  | .enabled => 0x01
  | .draining => 0x02
  | .shutDown => 0x03

/-- An exchange state's code (R180). -/
def ExchangeState.code : ExchangeState → Byte
  | .idle => 0x00
  | .sending _ => 0x01
  | .waiting _ => 0x02

/-- The exchange kind byte: none, unit or member, bit 7 orphan (R180). -/
def exchangeKindByte : Option Exchange → Byte
  | none => 0x00
  | some x => (match x.kind with | .unit => 0x01 | .member => 0x02) ||| flagAt 7 x.orphan

/-- The report of a port (R68, R180). -/
def portReport (p : BranchPort) : List Byte :=
  let x := p.exchange.current
  let tags := p.queue.map (fun e => byteOf e.tag.val)
  [p.state.code, p.exchange.code, exchangeKindByte x,
    (match x.bind (·.tag) with | some t => byteOf t.val | none => 0x00),
    byteOf ((x.map (·.attempt)).getD 0), byteOf p.queue.length,
    byteAt tags 0, byteAt tags 1, byteAt tags 2, byteAt tags 3,
    byteOf p.echoFaults, p.nextSeq.setWidth 8]

/-- An engine state's code (R180). -/
def EngineState.code : EngineState → Byte
  | .idle => 0x00
  | .running => 0x01
  | .waitingFence => 0x02
  | .error => 0x03

/-- The report of the invalidation engine (R120, R180). -/
def engineReport (q : InvalidationEngine) : List Byte :=
  let last := q.lastCompletion.getD { seq := 0, requested := 0, performed := 0 }
  let err := q.errorRecord.getD { seq := 0, kind := 0 }
  [q.state.code, byteOf q.queue.length, (q.queue.head?.map (·.seq)).getD 0, q.nextSeq,
    flagAt 0 q.lastCompletion.isSome ||| flagAt 1 q.errorRecord.isSome,
    last.seq, last.requested, last.performed, err.seq, err.kind]

/-- An operation as the three bytes kind, sector and page (R142, R180). -/
def operationBytes : Option Operation → List Byte
  | none => [0x00, 0x00, 0x00]
  | some o =>
    [(match o.op with | .program _ _ => 0x01 | .erase _ => 0x02), byteOf o.op.sector, byteOf o.op.page]

/-- The suspend phase and owner as two bytes (R180). -/
def phaseBytes : SuspendPhase → List Byte
  | .noSuspension => [0x00, 0x00]
  | .suspending .management => [0x01, 0x01]
  | .suspending .auto => [0x01, 0x02]
  | .suspended .management => [0x02, 0x01]
  | .suspended .auto => [0x02, 0x02]

/-- The active operation is a program nested under the suspended erase (R135). -/
def TableStore.nested (t : TableStore) : Bool := t.active.isSome && t.suspended.isSome

/-- The report of the store (R142, R180; log 27 for the sectors of protection NONE). -/
def storeReport (t : TableStore) : List Byte :=
  operationBytes t.active ++ operationBytes t.suspended ++ phaseBytes t.phase ++
  [flagAt 0 t.nested ||| flagAt 1 t.wel ||| flagAt 2 t.holdoff.isSome ||| flagAt 3 t.lock ||| flagAt 4 t.reading.isSome] ++
  protectionBytes t.protection ++ [byteOf t.fills.length]

/-- A slot as the three bytes of CACHE-READ (R46, R180). -/
def slotReport (c : CacheSlot) : List Byte :=
  [(match c with | .empty => 0x00 | .filling _ _ _ => 0x01 | .valid _ _ _ => 0x02 | .stale _ _ _ => 0x03) |||
      flagAt 7 c.marked,
    c.unit, byteOf c.refs]

/-- The descriptors of a QUEUE-INVALIDATION, four bytes each, with no sequence yet (R108, R180). -/
def decodeDescriptors : List Byte → List Descriptor
  | k :: f :: c :: n :: rest =>
    { kind := k, first := f, count := c, notify := bitOf 0 n, seq := 0 } :: decodeDescriptors rest
  | _ => []

/-- A field that SET-CONFIG writes with the value to write (R170). -/
inductive ConfigWrite where
  | retryLimit (b : Branch) (v : Fin 4)
  | echoLimit (b : Branch) (v : Fin 16)
  | broadcast (b : Branch) (v : Bool)
  | timeout (k : Fin 4) (v : Byte)
  | broadcastClass (v : Fin 16)
  | autoSuspend (v : Bool)
  | autoSnapshot (v : Bool)
  deriving DecidableEq, Repr

/-- One pair of SET-CONFIG: nothing when the identifier names no settable field or the value lies outside its range (R170, R180). -/
def decodeConfigWrite (id value : Byte) : Option ConfigWrite :=
  let n := id.toNat
  let v := value.toNat
  if 0x10 ≤ n ∧ n < 0x14 then if v ≤ 3 then some (.retryLimit (Fin.ofNat 4 (n - 0x10)) (Fin.ofNat 4 v)) else none
  else if 0x14 ≤ n ∧ n < 0x18 then
    if 1 ≤ v ∧ v ≤ 15 then some (.echoLimit (Fin.ofNat 4 (n - 0x14)) (Fin.ofNat 16 v)) else none
  else if 0x18 ≤ n ∧ n < 0x1C then (flagParameter value).map (.broadcast (Fin.ofNat 4 (n - 0x18)))
  else if 0x1C ≤ n ∧ n < 0x20 then if 1 ≤ v then some (.timeout (Fin.ofNat 4 (n - 0x1C)) value) else none
  else if n = 0x20 then if v ≤ 15 then some (.broadcastClass (Fin.ofNat 16 v)) else none
  else if n = 0x21 then (flagParameter value).map .autoSuspend
  else if n = 0x22 then (flagParameter value).map .autoSnapshot
  else none

/-- The pairs of SET-CONFIG: nothing when any pair is refused or a byte is left over (R170). -/
def decodeConfigWrites : List Byte → Option (List ConfigWrite)
  | [] => some []
  | id :: value :: rest =>
    match decodeConfigWrite id value, decodeConfigWrites rest with
    | some w, some ws => some (w :: ws)
    | _, _ => none
  | [_] => none

end Sys2Proof.Machine
end

