-- ==== Sys2Proof/Machine/Transactions.lean ====
section
/-!
DEFINITION. The end of a transaction (R20), the update of the Unit Status Table it makes (R94 to R98), and the execution of a management command from the head of the Management Queue with its reply (R165).
-/

namespace Sys2Proof.Machine

/-- The carried status differs from the stored one: a change when the unit is watched (R95). -/
def isChange (watch : Bool) (stored carried : Option Byte) : Bool :=
  match stored, carried with
  | some a, some b => watch && a != b
  | _, _ => false

/-- The unit record after an update (R94, R95): the outcome is written, and a carried status is stored. -/
def UnitRecord.updated (r : UnitRecord) (o : OutcomeCode) (status : Option Byte) : UnitRecord :=
  { r with lastOutcome := some o, status := status.or r.status }

/-- An update of the Unit Status Table at the end of a transaction (R94 to R98). -/
def UnitStatusTable.update (t : UnitStatusTable) (u : Byte) (o : OutcomeCode) (status : Option Byte) (watch : Bool) :
    UnitStatusTable :=
  let r := t.record u
  let r' := r.updated o status
  if isUnit u && isChange watch r.status status && !r.changed then
    if t.changes.length < Config.changeListCapacity then
      { t.setRecord u { r' with changed := true } with changes := t.changes ++ [u] }
    else { t.setRecord u r' with overflow := true }
  else t.setRecord u r'

/-- The end of a transaction updates the Unit Status Table: its unit has a record, its op is not QUERY-LAST, its outcome is not BAD-REQUEST (R20, R94). -/
def updatesStatus (r : TagRecord) (o : OutcomeCode) : Bool :=
  isUnit r.unit && r.op != some .queryLast && o != .badRequest

/-- The Unit Status Table takes the update of the transaction under a tag (R20, second step). -/
def statusUpdate (t : Tag) (o : OutcomeCode) (status : Option Byte) (watch : Bool) (s : State) : State :=
  if updatesStatus (s.tag t) o then { s with ust := s.ust.update (s.tag t).unit o status watch } else s

/-- A response joins the tail of the Reply Queue (R20). -/
def appendReply (r : Response) (s : State) : State := { s with tp := { s.tp with replies := s.tp.replies ++ [r] } }

/-- The end of the transaction under a tag (R20): the outcome is written, the Unit Status Table updated, the response appended, and the record becomes REPLYING. `status` is the unit status that the response carries; `watch` is the change-watch of the route that carried the exchange (R96). -/
def endTransaction (t : Tag) (o : OutcomeCode) (status : Option Byte) (watch : Bool) (payload : List Byte) (s : State) :
    State :=
  let r := s.tag t
  let s := statusUpdate t o status watch s
  let s := appendReply { tag := t, unit := r.unit, outcome := o, status := status, payload := payload } s
  s.setTag t { r with state := .replying, outcome := some o, members := Vector.replicate 4 none }

/-- The end of a transaction that no reply of a unit ended and that carries no payload (R21). -/
def endPlain (t : Tag) (o : OutcomeCode) (s : State) : State := endTransaction t o none false [] s

/-! ## Management commands (R164, R165) -/

/-- The head entry leaves the Management Queue (R164). -/
def dropManagementHead (s : State) : State := { s with mu := { s.mu with queue := s.mu.queue.tail } }

/-- The reply of a command is built and appended, and its entry leaves the head of the Management Queue (R165). -/
def reply (t : Tag) (result : ResultCode) (data : List Byte) (s : State) : State :=
  dropManagementHead (endTransaction t .done none false (result.code :: data) s)

/-- The request at the head of the Management Queue that may begin: not begun, and the unit not halted (R165, R171). -/
def managementHead (s : State) : Option Tag :=
  match s.mu.halted, s.mu.queue with
  | none, .waiting t :: _ => some t
  | _, _ => none

/-- The Management Unit begins the head request when its command code is one the predicate names; `body` executes it with its tag and its parameter bytes (R165, R166). -/
def whenCommand (code : Nat → Bool) (body : Tag → List Byte → State → State) (s : State) : State :=
  match managementHead s with
  | some t => if code (s.tag t).channel.toNat then body t (s.tag t).payload s else s
  | none => s

/-- A command that takes no parameters: any parameter byte is refused BAD-PARAMETER. -/
def withoutParameters (body : Tag → State → State) (t : Tag) (params : List Byte) (s : State) : State :=
  if params.isEmpty then body t s else reply t .badParameter [] s

end Sys2Proof.Machine
end

