-- ==== Sys2Proof/Machine/RouteCache.lean ====
section
/-!
DEFINITION. The Route Cache slots (R26 to R46) and the fence that watches them (R44, R116, R117): matching, victims, the recency order, invalidation, release, the drain report, and CACHE-READ.
-/

namespace Sys2Proof.Machine

/-- A slot matches a unit: VALID or FILLING for it (R27). -/
def CacheSlot.matchesUnit (c : CacheSlot) (u : Byte) : Bool :=
  match c with
  | .filling v _ _ => v == u
  | .valid v _ _ => v == u
  | _ => false

/-- The slot that matches a unit (R27). -/
def RouteCache.matching (c : RouteCache) (u : Byte) : Option SlotNo :=
  (List.finRange 32).find? fun i => c.slots[i.val].matchesUnit u

/-- A slot that holds the cache back from being drained: STALE, or FILLING with a refill mark (R44). -/
def CacheSlot.undrained : CacheSlot → Bool
  | .filling _ m _ => m
  | .stale _ _ _ => true
  | _ => false

/-- The Route Cache is drained (R44). -/
def RouteCache.drained (c : RouteCache) : Bool := (List.finRange 32).all fun i => !c.slots[i.val].undrained

/-- A slot is EMPTY. -/
def CacheSlot.isEmpty : CacheSlot → Bool
  | .empty => true
  | _ => false

/-- A slot is VALID with no references (R32, row 2). -/
def CacheSlot.isIdleValid : CacheSlot → Bool
  | .valid _ _ n => n == 0
  | _ => false

/-- A slot is FILLING with no waiters (R32, row 3). -/
def CacheSlot.isUnawaited : CacheSlot → Bool
  | .filling _ _ w => w.isEmpty
  | _ => false

/-- The victim of a miss (R32): the lowest EMPTY slot; else the least recent VALID slot with no references; else the lowest FILLING slot with no waiters. -/
def RouteCache.victim (c : RouteCache) : Option SlotNo :=
  ((List.finRange 32).find? fun i => c.slots[i.val].isEmpty) <|>
  (c.recency.reverse.find? fun i => c.slots[i.val].isIdleValid) <|>
  ((List.finRange 32).find? fun i => c.slots[i.val].isUnawaited)

/-- A slot moves to, or enters at, the most-recent end of the recency order (R33). -/
def touch (i : SlotNo) (s : State) : State := s.setRecency (i :: s.rc.recency.filter (· ≠ i))

/-- A slot leaves the recency order (R33). -/
def leaveRecency (i : SlotNo) (s : State) : State := s.setRecency (s.rc.recency.filter (· ≠ i))

/-! ## Fences (R44, R116, R117) -/

/-- The engine state after its head has been removed: RUNNING if descriptors remain, else IDLE (R115, R116, R119). -/
def stateAfterHead (rest : List Descriptor) : EngineState := if rest.isEmpty then .idle else .running

/-- The FENCE at the head completes (R116). -/
def completeFence (s : State) : State :=
  match s.iqe.queue with
  | [] => s
  | d :: rest =>
    latchFenceNotify d.notify
      { s with
        iqe :=
          { s.iqe with
            queue := rest
            state := stateAfterHead rest
            lastCompletion := some { seq := d.seq, requested := kindFence, performed := kindFence } } }

/-- An event that removed a STALE slot or a refill mark is reported: a waiting FENCE completes if the cache is drained (R44, R117). -/
def drainReport (s : State) : State :=
  if s.iqe.state = .waitingFence ∧ s.rc.drained = true then completeFence s else s

/-! ## References and invalidation -/

/-- A reference is taken on a VALID slot (R40). -/
def takeReference (i : SlotNo) (s : State) : State :=
  match s.slot i with
  | .valid u r n => s.setSlot i (.valid u r (n + 1))
  | _ => s

/-- A reference is released (R41): a STALE slot whose last reference goes becomes EMPTY, which is a drain event. -/
def releaseReference (i : SlotNo) (s : State) : State :=
  match s.slot i with
  | .valid u r n => s.setSlot i (.valid u r (n - 1))
  | .stale u r n => if n ≤ 1 then drainReport (s.setSlot i .empty) else s.setSlot i (.stale u r (n - 1))
  | _ => s

/-- An invalidation of one slot (R42). -/
def invalidateSlot (i : SlotNo) (s : State) : State :=
  match s.slot i with
  | .valid u r n => if n = 0 then (leaveRecency i s).setSlot i .empty else (leaveRecency i s).setSlot i (.stale u r n)
  | .filling u _ w => s.setSlot i (.filling u true w)
  | _ => s

/-- An invalidation of one unit acts on the slot that matches it, if there is one (R42). -/
def invalidateUnit (u : Byte) (s : State) : State :=
  match s.rc.matching u with
  | some i => invalidateSlot i s
  | none => s

/-- An invalidation of every slot (R42). -/
def invalidateAll (s : State) : State := (List.finRange 32).foldl (fun s i => invalidateSlot i s) s

/-! ## CACHE-READ (R46) -/

/-- CACHE-READ is refused: not two parameters, or a run of slots outside 0 to 31 or of a length outside 1 to 15 (R46). -/
def cacheReadRefused (params : List Byte) : Bool :=
  let first := (byteAt params 0).toNat
  let n := (byteAt params 1).toNat
  params.length != 2 || 31 < first || n == 0 || 15 < n || 32 < first + n

/-- The reports of a run of slots (R46). -/
def cacheReport (c : RouteCache) (first n : Nat) : List Byte :=
  (((List.finRange 32).drop first).take n).flatMap fun i => slotReport c.slots[i.val]

/-- CACHE-READ executed for a request (R46). -/
def cacheReadCommand (t : Tag) (params : List Byte) (s : State) : State :=
  if cacheReadRefused params then reply t .badParameter [] s
  else reply t .accepted (cacheReport s.rc (byteAt params 0).toNat (byteAt params 1).toNat) s

/-- CACHE_READ (R46). -/
def execCacheRead (s : State) : Host.Outcome State Fault Refusal :=
  event s (whenCommand (· == 26) cacheReadCommand s)

end Sys2Proof.Machine
end

