-- ==== Sys2Proof/Machine/ReadPort.lean ====
section
/-!
DEFINITION. The Table Store's read port (R136 to R140): the judgement of fills, resumes and automatic suspensions, the withdrawal of reads, the arbiter, the loader's examination of the store (R173), and the settling of the store at the end of an event (log 18).
-/

namespace Sys2Proof.Machine

/-- The results of a fill's judgement (R137). -/
inductive FillVerdict where
  | refused | eligible | waitSuspension | waitHoldoff | beginSuspension
  deriving DecidableEq, Repr

/-- The suspend phase is SUSPENDING, of either owner (R125). -/
def SuspendPhase.isSuspending : SuspendPhase → Bool
  | .suspending _ => true
  | _ => false

/-- The owner of a suspension, present while the phase is not none (R125). -/
def SuspendPhase.owner : SuspendPhase → Option Owner
  | .noSuspension => none
  | .suspending o => some o
  | .suspended o => some o

/-- The sector is that of the active or of the suspended operation (R137, row 1). -/
def TableStore.sectorBusy (t : TableStore) (sector : Nat) : Bool :=
  t.active.any (fun o => o.op.sector == sector) || t.suspended.any (fun o => o.op.sector == sector)

/-- The judgement of a fill of a sector: the first row of R137's table that holds. -/
def TableStore.judge (t : TableStore) (autoSuspend : Bool) (sector : Nat) : FillVerdict :=
  if t.sectorBusy sector then .refused
  else if t.active.isNone then .eligible
  else if t.phase.isSuspending then .waitSuspension
  else if t.suspended.isSome then .refused
  else if !autoSuspend then .refused
  else if t.holdoff.isSome then .waitHoldoff
  else .beginSuspension

/-- A fill joins the tail of the waiting reads (R136). -/
def TableStore.addFill (t : TableStore) (slot : SlotNo) (unit : Byte) (w : FillWait) : TableStore :=
  { t with fills := t.fills ++ [{ slot := slot, unit := unit, wait := w }] }

/-- A fill is judged and takes its place: refused and counted, waiting, or waiting for the AUTO suspension it begins (R137, R139). -/
def judgeFill (slot : SlotNo) (unit : Byte) (s : State) : State :=
  match s.ts.judge s.config.autoSuspend (routeSector unit) with
  | .refused =>
    count (.bridge .storeBusyRefusals) { s with ts := { s.ts with refusedFills := s.ts.refusedFills ++ [slot] } }
  | .eligible => { s with ts := s.ts.addFill slot unit .eligible }
  | .waitSuspension => { s with ts := s.ts.addFill slot unit .forSuspension }
  | .waitHoldoff => { s with ts := s.ts.addFill slot unit .forHoldoff }
  | .beginSuspension => { s with ts := { s.ts.addFill slot unit .forSuspension with phase := .suspending .auto } }

/-- Every waiting fill is judged again, in issue order (R138). -/
def rejudgeFills (s : State) : State :=
  s.ts.fills.foldl (fun s f => judgeFill f.slot f.unit s) { s with ts := { s.ts with fills := [] } }

/-- A fill of a slot is withdrawn (R136): a waiting read and a refusal not yet reported leave, and a read in progress has its result dropped (R28, R32, R45; log 12). -/
def TableStore.withdraw (t : TableStore) (slot : SlotNo) : TableStore :=
  { t with
    fills := t.fills.filter (fun f => f.slot ≠ slot)
    refusedFills := t.refusedFills.filter (· ≠ slot)
    reading := t.reading.map fun r => if r.reader = .fill slot then { r with reader := .droppedFill } else r }

/-- A fill of a slot is withdrawn from the store (R136). -/
def withdrawFill (slot : SlotNo) (s : State) : State := { s with ts := s.ts.withdraw slot }

/-- A resume of the suspended operation (R133, R140, R173): it becomes active with its running time, WEL is cleared, the holdoff starts, and every waiting fill is judged again. -/
def resume (s : State) : State :=
  match s.ts.suspended with
  | none => s
  | some o =>
    rejudgeFills
      { s with
        ts :=
          { s.ts with
            active := some o
            suspended := none
            phase := .noSuspension
            wel := false
            holdoff := some Config.holdoffTime } }

/-- A read of a fill or of a STORE-READ, its result dropped or not (R140). -/
def Reader.holdsSuspension : Reader → Bool
  | .fill _ => true
  | .droppedFill => true
  | .storeRead => true
  | .droppedStoreRead => true
  | _ => false

/-- The conditions of an automatic resume (R140). -/
def TableStore.autoResumes (t : TableStore) : Bool :=
  t.phase = .suspended .auto && t.active.isNone && t.fills.isEmpty && t.storeRead.isNone &&
  !t.reading.any (fun r => r.reader.holdsSuspension)

/-- A suspension owned AUTO ends by itself in the first event after which R140 allows. -/
def autoResume (s : State) : State := if s.ts.autoResumes then resume s else s

/-- The loader in WAIT-STORE examines the store (R173): it waits for an active operation, resumes an operation suspended in sectors 4 to 6, waits for an AUTO suspension to resume, and otherwise enters READING. -/
def loaderExamine (s : State) : State :=
  if s.sul.state = .waitStore ∧ s.ts.active.isNone = true then
    if s.ts.suspended.any (fun o => 4 ≤ o.op.sector && o.op.sector ≤ 6) then resume s
    else if s.ts.phase = .suspended .auto then s
    else { s with sul := { s.sul with state := .reading 0 none 0 } }
  else s

/-- The address and the number of bytes of the loader's read k: the record, then the policy chunks (R173). -/
def loaderRead (k : Nat) : Nat × Nat := if k = 0 then (recordAddress, 64) else (chunkAddress (k - 1), 64)

/-- An activation's chunk read may begin (R59). -/
def chunkEligible (s : State) : Bool :=
  s.pu.activation != .idle && s.ts.active.isNone && s.ts.phase.owner != some .auto && s.ts.fills.isEmpty &&
  s.ts.storeRead.isNone

/-- A read begins: the port takes the bytes of the store as they stand (R136). -/
def beginRead (reader : Reader) (address n : Nat) (s : State) : State :=
  { s with ts := { s.ts with reading := some { reader := reader, bytes := readBytes s.ts.contents address n } } }

/-- The arbiter (R136): with the port free, the eligible fill issued first begins; otherwise the STORE-READ; otherwise the chunk read; otherwise the loader's read. -/
def arbiter (s : State) : State :=
  if s.ts.reading.isSome then s
  else
    match s.ts.fills.find? (fun f => f.wait = .eligible) with
    | some f =>
      beginRead (.fill f.slot) (routeAddress f.unit) 16
        { s with ts := { s.ts with fills := s.ts.fills.filter (fun g => g.slot ≠ f.slot) } }
    | none =>
      match s.ts.storeRead with
      | some q => beginRead .storeRead q.address q.count { s with ts := { s.ts with storeRead := none } }
      | none =>
        if chunkEligible s then
          match s.pu.activation with
          | .running k _ => beginRead .chunk (chunkAddress k.val) 64 s
          | .idle => s
        else
          match s.sul.state with
          | .reading k _ _ =>
            if s.ts.active.isNone then beginRead .loader (loaderRead k.val).1 (loaderRead k.val).2 s else s
          | _ => s

/-- What follows at the store at the end of an event that reached it: the automatic resume, the loader's examination, the arbiter (R140, R173, R136; log 18). -/
def settle (s : State) : State := arbiter (loaderExamine (autoResume s))

/-- The read in progress has completed: the port is free (R136). -/
def freePort (s : State) : State := { s with ts := { s.ts with reading := none } }

end Sys2Proof.Machine
end

