-- ==== Sys2Proof/Machine/PolicyCheck.lean ====
section
/-!
DEFINITION. The policy check (R11 to R16, R50 to R56): holding during an activation, the judgement of unit requests and broadcasts, local answers, the entry into a Branch Queue, and the fan-out and outcome of broadcasts.
-/

namespace Sys2Proof.Machine

/-! ## Dispatch order (R2) -/

/-- Of two live transactions, the first was dispatched before the second (R2). -/
def earlier (s : State) (a b : Tag) : Bool :=
  let d := ((s.tag b).seq - (s.tag a).seq).toNat
  1 ≤ d && d ≤ 2147483647

/-- A tag is placed after every tag dispatched earlier and before every tag dispatched later (R30, R63). -/
def insertByDispatch (s : State) (t : Tag) : List Tag → List Tag
  | [] => [t]
  | u :: us => if earlier s u t then u :: insertByDispatch s t us else t :: u :: us

/-- A transaction becomes HELD and its tag takes its place in the held list (R11, R63). -/
def hold (t : Tag) (s : State) : State :=
  let s := s.setTag t { s.tag t with state := .held }
  { s with pu := { s.pu with held := insertByDispatch s t s.pu.held } }

/-! ## Actions (R53) -/

/-- Whether an activation is RUNNING (R57). -/
def activationRunning (s : State) : Bool := s.pu.activation != .idle

/-- The row of the Policy Image for a class and a direction, fetch or store (R47, R48). -/
def imageRow (policyClass : Fin 16) (store : Bool) : Fin 32 :=
  ⟨2 * policyClass.val + (if store then 1 else 0), by split <;> omega⟩

/-- The action of the Policy Image for a class, a direction and a channel (R47). -/
def PolicyUnit.action (p : PolicyUnit) (policyClass : Fin 16) (store : Bool) (channel : Nat) : Action :=
  (p.image[(imageRow policyClass store).val]).toList.getD channel .illegal

/-- The stricter of two actions, from ILLEGAL through BUSY and LOCAL to PASS (R53). -/
def Action.stricter : Action → Action → Action
  | .illegal, _ => .illegal
  | _, .illegal => .illegal
  | .busy, _ => .busy
  | _, .busy => .busy
  | .localAnswer, _ => .localAnswer
  | _, .localAnswer => .localAnswer
  | .pass, .pass => .pass

/-- The action applied to a request of an op (R53). -/
def PolicyUnit.actionFor (p : PolicyUnit) (op : Option ReqOp) (policyClass : Fin 16) (channel : Nat) : Action :=
  match op with
  | some .write => p.action policyClass true channel
  | some .exchange => (p.action policyClass false channel).stricter (p.action policyClass true channel)
  | _ => p.action policyClass false channel

/-! ## Unit requests (R12, R13, R14) -/

/-- The physical channel: the virtual channel plus the channel offset (R12). -/
def physicalChannel (r : TagRecord) (route : Route) : Nat := r.channel.toNat + route.offset.toNat

/-- The route facts of a judged request (R12). -/
def routeFacts (r : TagRecord) (route : Route) : RouteFacts :=
  { branch := route.branch
    physUnit := route.physUnit
    physChannel := byteOf (physicalChannel r route)
    timeoutClass := route.timeoutClass }

/-- The outcome and payload of a local answer (R13). -/
def localAnswerOf (op : Option ReqOp) (length : Byte) (route : Route) : OutcomeCode × List Byte :=
  match op with
  | some .read => (.doneLocal, List.replicate length.toNat route.conditioning)
  | some .exchange =>
    if route.absorb then (.doneLocal, List.replicate length.toNat route.conditioning) else (.refusedIllegal, [])
  | _ => if route.absorb then (.doneLocal, []) else (.refusedIllegal, [])

/-- A local answer is built and the transaction ends; LOCAL-ANSWERS is counted (R13, R55). -/
def answerLocally (t : Tag) (route : Route) (s : State) : State :=
  let a := localAnswerOf (s.tag t).op (s.tag t).length route
  count (.bridge .localAnswers) (endTransaction t a.1 none false a.2 s)

/-- The POLICY-ILLEGAL fault of a request (R52, R54, R56). -/
def policyFault (t : Tag) (unit : Byte) (channel : Nat) : FaultRecord :=
  { FaultRecord.plain .policyIllegal with unit := some unit, tag := some t, detail := byteOf channel }

/-- A refusal by policy, counted POLICY-REFUSALS (R12). -/
def refuse (t : Tag) (o : OutcomeCode) (s : State) : State := count (.bridge .policyRefusals) (endPlain t o s)

/-- A refusal by policy with the fault POLICY-ILLEGAL on a channel (R12, R54). -/
def refuseIllegal (t : Tag) (channel : Nat) (s : State) : State :=
  recordFault (policyFault t (s.tag t).unit channel) (refuse t .refusedIllegal s)

/-- A request that passed every check enters the Branch Queue of its branch and takes a reference on its slot (R14). -/
def enterQueue (t : Tag) (i : SlotNo) (branch : Branch) (s : State) : State :=
  let s := takeReference i (s.setTag t { s.tag t with state := .queued, slot := some i })
  s.setPort branch { s.port branch with queue := (s.port branch).queue ++ [{ tag := t, kind := .unit }] }

/-- The port checks 5 to 7 of R12. -/
def portChecks (t : Tag) (i : SlotNo) (branch : Branch) (s : State) : State :=
  if (s.port branch).state ≠ .enabled then endPlain t .portDown s
  else if Config.branchQueueCapacity ≤ (s.port branch).queue.length then endPlain t .refusedBusy s
  else enterQueue t i branch s

/-- Checks 3 and 4 of R12, on the physical channel, and what follows. -/
def actionChecks (t : Tag) (i : SlotNo) (route : Route) (s : State) : State :=
  let channel := physicalChannel (s.tag t) route
  if 63 < channel then refuseIllegal t channel s
  else
    match s.pu.actionFor (s.tag t).op route.policyClass channel with
    | .illegal => refuseIllegal t channel s
    | .busy => refuse t .refusedBusy s
    | .localAnswer => answerLocally t route s
    | .pass => portChecks t i route.branch s

/-- A routed unit request is judged by the checks of R12 in their order; the route facts are written into its record whatever the result. -/
def judgeUnitRequest (t : Tag) (i : SlotNo) (route : Route) (s : State) : State :=
  let s := s.setTag t { s.tag t with facts := some (routeFacts (s.tag t) route) }
  match route.service with
  | .oosRefuse => refuse t .refusedBusy s
  | .oosLocal => answerLocally t route s
  | .inService => actionChecks t i route s

/-- A unit request with its route reaches the policy check: it is held while an activation is RUNNING, and otherwise judged (R11, R50). -/
def unitPolicyCheck (t : Tag) (i : SlotNo) (route : Route) (s : State) : State :=
  if activationRunning s then hold t s else judgeUnitRequest t i route s

/-! ## Broadcasts (R15, R16, R56) -/

/-- The set of failed branches of a broadcast, bit n for branch n (R177). -/
def failedSet (m : Vector (Option MemberState) 4) : Byte :=
  flagAt 0 (m[0] == some .failed) ||| flagAt 1 (m[1] == some .failed) ||| flagAt 2 (m[2] == some .failed) |||
  flagAt 3 (m[3] == some .failed)

/-- Some member of a broadcast stands in a state. -/
def anyMember (m : Vector (Option MemberState) 4) (x : MemberState) : Bool :=
  (List.finRange 4).any fun b => m[b.val] == some x

/-- When no member is pending, the broadcast's outcome is decided and it ends (R16). -/
def decideBroadcast (t : Tag) (s : State) : State :=
  let m := (s.tag t).members
  if anyMember m .pending then s
  else if anyMember m .succeeded then
    if anyMember m .failed then endTransaction t .broadcastPartial none false [failedSet m] s
    else endPlain t .done s
  else endPlain t .portDown s

/-- A member of a broadcast is given a state. -/
def setMember (t : Tag) (b : Branch) (x : MemberState) (s : State) : State :=
  s.setTag t { s.tag t with members := (s.tag t).members.set b.val (some x) }

/-- A member of a broadcast ends, as its port reports (R16). -/
def endMember (t : Tag) (b : Branch) (succeeded : Bool) (s : State) : State :=
  decideBroadcast t (setMember t b (if succeeded then .succeeded else .failed) s)

/-- One branch of a fan-out: a member whose queue has room is pending and queued, one whose queue is full has failed (R15). -/
def fanOutTo (t : Tag) (s : State) (b : Branch) : State :=
  if s.config.broadcast[b.val] = true ∧ (s.port b).state = .enabled then
    if (s.port b).queue.length < Config.branchQueueCapacity then
      setMember t b .pending
        (s.setPort b { s.port b with queue := (s.port b).queue ++ [{ tag := t, kind := .member }] })
    else setMember t b .failed s
  else s

/-- A passed broadcast becomes BCAST and fans out to its members, branch 0 first (R15); with no member pending it ends at once (R16). -/
def fanOut (t : Tag) (s : State) : State :=
  let s := s.setTag t { s.tag t with state := .bcast, members := Vector.replicate 4 none }
  decideBroadcast t ((List.finRange 4).foldl (fanOutTo t) s)

/-- A broadcast is judged with the broadcast policy class, in the store direction, on its virtual channel (R10, R56). -/
def judgeBroadcast (t : Tag) (s : State) : State :=
  let channel := (s.tag t).channel.toNat
  match s.pu.action s.config.broadcastClass true channel with
  | .illegal => refuseIllegal t channel s
  | .busy => refuse t .refusedBusy s
  | .localAnswer => count (.bridge .localAnswers) (endPlain t .doneLocal s)
  | .pass => fanOut t s

/-- A broadcast reaches the policy check (R10, R11). -/
def broadcastPolicyCheck (t : Tag) (s : State) : State :=
  if activationRunning s then hold t s else judgeBroadcast t s

end Sys2Proof.Machine
end

