-- ==== Sys2Proof/Machine/Lookups.lean ====
section
/-!
DEFINITION. The Dispatcher and the lookups and fills of the Route Cache (R4 to R11, R29 to R39): DISPATCH, FILL_COMPLETION and FILL_REFUSAL.
-/

namespace Sys2Proof.Machine

/-! ## Lookup (R29 to R32) -/

/-- A hit (R29): the slot becomes the most recent, CACHE-HITS is counted, and the transaction goes on to the policy check with the route. -/
def lookupHit (t : Tag) (i : SlotNo) (route : Route) (s : State) : State :=
  unitPolicyCheck t i route (count (.bridge .cacheHits) (touch i s))

/-- A join (R30): the tag takes its place among the waiters in dispatch order, and CACHE-MISSES is counted. -/
def lookupJoin (t : Tag) (i : SlotNo) (unit : Byte) (mark : Bool) (waiters : List Tag) (s : State) : State :=
  count (.bridge .cacheMisses) (s.setSlot i (.filling unit mark (insertByDispatch s t waiters)))

/-- A slot is taken as the victim of a miss (R32): its old fill is withdrawn, it leaves the recency order, and it becomes FILLING for the unit with the tag as its one waiter (R31). -/
def claimSlot (t : Tag) (i : SlotNo) (unit : Byte) (s : State) : State :=
  (leaveRecency i (withdrawFill i s)).setSlot i (.filling unit false [t])

/-- A miss (R31): the victim becomes FILLING, CACHE-MISSES is counted and a fill is issued; the loss of a refill-marked victim is reported (R32, R44). With no victim nothing changes but the count, which R32 rules out (log 14). -/
def lookupMiss (t : Tag) (unit : Byte) (s : State) : State :=
  match s.rc.victim with
  | none => count (.bridge .cacheMisses) s
  | some i =>
    let filled := judgeFill i unit (count (.bridge .cacheMisses) (claimSlot t i unit s))
    if (s.slot i).marked then drainReport filled else filled

/-- The route of the transaction's unit is asked of the Route Cache: a hit, a join or a miss (R9, R29 to R31). -/
def lookup (t : Tag) (s : State) : State :=
  let unit := (s.tag t).unit
  match s.rc.matching unit with
  | none => lookupMiss t unit s
  | some i =>
    match s.slot i with
    | .valid _ route _ => lookupHit t i route s
    | .filling u mark waiters => lookupJoin t i u mark waiters s
    | _ => s

/-! ## Dispatch (R4 to R10) -/

/-- The record of a dispatched request (R1, R4). -/
def newRecord (seq : BitVec 32) (r : RequestFrame) : TagRecord :=
  let op := ReqOp.ofCode r.opCode
  { TagRecord.blank with
    state := .lookup
    seq := seq
    op := op
    unit := r.unit
    channel := r.channel
    length := r.length
    payload := if op = some .read ∨ op = some .queryLast then [] else r.payload }

/-- The record is filled with the next dispatch sequence, and the counter advances (R2, R4). -/
def fillRecord (r : RequestFrame) (s : State) : State :=
  let s := s.setTag r.tag (newRecord s.dsp.nextSeq r)
  { s with dsp := { s.dsp with nextSeq := s.dsp.nextSeq + 1 } }

/-- A frame under a busy tag is discarded: TAG-REUSES is counted and the fault recorded (R6). -/
def discardReuse (t : Tag) (s : State) : State :=
  recordFault { FaultRecord.plain .tagReuse with tag := some t } (count (.trunk .tagReuses) s)

/-- A bad request is answered at once and its fault recorded (R5). -/
def answerBad (r : RequestFrame) (s : State) : State :=
  recordFault
    { FaultRecord.plain .badRequest with unit := if isUnit r.unit then some r.unit else none, tag := some r.tag }
    (endPlain r.tag .badRequest s)

/-- A management request is refused, or becomes MGMT and joins the Management Queue (R7). -/
def managementRequest (r : RequestFrame) (s : State) : State :=
  if ReqOp.ofCode r.opCode ≠ some .write then endPlain r.tag .refusedIllegal s
  else if Config.managementCapacity ≤ s.mu.queue.length then endPlain r.tag .refusedBusy s
  else
    let s := s.setTag r.tag { s.tag r.tag with state := .mgmt }
    { s with mu := { s.mu with queue := s.mu.queue ++ [.waiting r.tag] } }

/-- A QUERY-LAST is answered at once from the Unit Status Table (R8, R101). -/
def answerQuery (r : RequestFrame) (s : State) : State :=
  let u := s.ust.record r.unit
  endTransaction r.tag .doneLocal u.status false [lastOutcomeCode u.lastOutcome, u.status.getD 0] s

/-- A good request is classified by its unit and its op (R7 to R10). -/
def classify (r : RequestFrame) (s : State) : State :=
  if r.unit = 0 then managementRequest r s
  else if r.unit = 0xFF then broadcastPolicyCheck r.tag s
  else if ReqOp.ofCode r.opCode = some .queryLast then answerQuery r s
  else lookup r.tag s

/-- A frame is dispatched (R4): its tag's state decides first (R6), then its fields (R5), then its class. -/
def dispatchFrame (r : RequestFrame) (s : State) : State :=
  if (s.tag r.tag).state ≠ .free then discardReuse r.tag s
  else if r.isBad then answerBad r (fillRecord r s)
  else classify r (fillRecord r s)

/-- The head frame leaves the Intake Queue (R4). -/
def dropIntakeHead (s : State) : State := { s with tp := { s.tp with intake := s.tp.intake.tail } }

/-- DISPATCH (R4). -/
def execDispatch (s : State) : Host.Outcome State Fault Refusal :=
  event s (match s.tp.intake with
    | frame :: _ => settle (dispatchFrame (decodeRequest frame) (dropIntakeHead s))
    | [] => s)

/-! ## Fill completions (R35 to R39) -/

/-- The waiters of a fill each end with an outcome, oldest dispatch first (R36, R37). -/
def endWaiters (o : OutcomeCode) (waiters : List Tag) (s : State) : State :=
  waiters.foldl (fun s t => endPlain t o s) s

/-- A fill ended without a route: one fault for the fill, with the unit and the oldest waiter, and none when nobody waits (R36, R39). -/
def fillFault (k : FaultKind) (unit : Byte) (waiters : List Tag) (s : State) : State :=
  match waiters with
  | [] => s
  | t :: _ => recordFault { FaultRecord.plain k with unit := some unit, tag := some t } s

/-- A fill completed with a present entry (R35, R39): the slot becomes VALID and most recent, and its waiters proceed to the policy check, oldest dispatch first. -/
def fillPresent (i : SlotNo) (unit : Byte) (route : Route) (waiters : List Tag) (s : State) : State :=
  waiters.foldl (fun s t => unitPolicyCheck t i route s) (touch i (s.setSlot i (.valid unit route 0)))

/-- A fill completed with an absent or malformed entry (R36, R39). -/
def fillWithout (k : FaultKind) (i : SlotNo) (unit : Byte) (waiters : List Tag) (s : State) : State :=
  endWaiters .noRoute waiters (fillFault k unit waiters (s.setSlot i .empty))

/-- A refill-marked result is discarded: with waiters the mark is cleared and a new fill issued, without waiters the slot becomes EMPTY; either is a drain event (R38, R39). -/
def fillMarked (i : SlotNo) (unit : Byte) (waiters : List Tag) (s : State) : State :=
  if waiters.isEmpty then drainReport (s.setSlot i .empty)
  else drainReport (judgeFill i unit (s.setSlot i (.filling unit false waiters)))

/-- A served fill's result reaches its slot (R35, R36, R38, R39). -/
def fillResult (i : SlotNo) (bytes : List Byte) (s : State) : State :=
  match s.slot i with
  | .filling unit true waiters => fillMarked i unit waiters s
  | .filling unit false waiters =>
    match decodeRoute bytes with
    | .present route => fillPresent i unit route waiters s
    | .absent => fillWithout .noRoute i unit waiters s
    | .malformed => fillWithout .routeMalformed i unit waiters s
  | _ => s

/-- FILL_COMPLETION (R34, R35): the fill in progress completes and the port is free; a dropped result is applied to no slot. -/
def execFillCompletion (s : State) : Host.Outcome State Fault Refusal :=
  event s (match s.ts.reading with
    | some ⟨.fill i, bytes⟩ => settle (fillResult i bytes (freePort s))
    | some ⟨.droppedFill, _⟩ => settle (freePort s)
    | _ => s)

/-- A refusal reaches its slot (R37): the slot becomes EMPTY and its waiters end STORE-BUSY; a refill mark goes with it, which is a drain event. -/
def fillRefused (i : SlotNo) (s : State) : State :=
  match s.slot i with
  | .filling _ mark waiters =>
    let ended := endWaiters .storeBusy waiters (s.setSlot i .empty)
    if mark then drainReport ended else ended
  | _ => s

/-- FILL_REFUSAL (R37): the refusal of the fill of `slot` reaches the Route Cache. -/
def execFillRefusal (slot : SlotNo) (s : State) : Host.Outcome State Fault Refusal :=
  event s
    (if slot ∈ s.ts.refusedFills then
      settle (fillRefused slot { s with ts := { s.ts with refusedFills := s.ts.refusedFills.erase slot } })
    else s)

end Sys2Proof.Machine
end

