-- ==== Sys2Proof/Machine/Activation.lean ====
section
/-!
DEFINITION. Policy activation (R57 to R64): ACTIVATE-POLICY in its two modes, the completion of a chunk read, the completion of an activation and the release of held transactions.
-/

namespace Sys2Proof.Machine

/-- The modes of ACTIVATE-POLICY (R58, R64). -/
inductive ActivationMode where
  | start | report
  deriving DecidableEq, Repr

/-- The mode that ACTIVATE-POLICY's parameters name, when they are allowed (R64, R180). -/
def decodeActivation (params : List Byte) : Option ActivationMode :=
  if params.length = 1 then
    if byteAt params 0 = 0x01 then some .start else if byteAt params 0 = 0x02 then some .report else none
  else none

/-- An operation in a policy sector (R58, check 2). -/
def Operation.inPolicy (o : Operation) : Bool := o.op.sector == 4 || o.op.sector == 5

/-- The store's active or suspended operation lies in a policy sector (R58, check 2). -/
def TableStore.policyBusy (t : TableStore) : Bool := t.active.any (·.inPolicy) || t.suspended.any (·.inPolicy)

/-- ACTIVATE-POLICY(START) executed for a request; both replies carry the generation (R58). -/
def startActivation (t : Tag) (s : State) : State :=
  if activationRunning s || s.ts.policyBusy then reply t .busy [s.pu.generation] s
  else
    settle (reply t .accepted [s.pu.generation] { s with pu := { s.pu with activation := .running 0 0 } })

/-- The chunk read is in progress at the read port (R57; log 16). -/
def chunkInProgress (s : State) : Bool := s.ts.reading.any (fun r => r.reader == .chunk)

/-- The chunk read waits because the store has an active operation or an AUTO suspension (R64). -/
def storeBlocked (s : State) : Bool :=
  activationRunning s && !chunkInProgress s && (s.ts.active.isSome || s.ts.phase.owner == some .auto)

/-- The activation state, 00h IDLE or 01h RUNNING, and the chunks written (R64, R180). -/
def Activation.bytes : Activation → List Byte
  | .idle => [0x00, 0x00]
  | .running k _ => [0x01, byteOf k.val]

/-- The report of the activation record (R64, R180). -/
def activationReport (s : State) : List Byte :=
  s.pu.activation.bytes ++ [flagByte (storeBlocked s), byteOf s.pu.held.length, s.pu.generation] ++
  bytesOfWord (BitVec.ofNat 16 s.pu.undecodable)

/-- ACTIVATE-POLICY(REPORT) executed for a request (R64). -/
def reportActivation (t : Tag) (s : State) : State := reply t .accepted (activationReport s) s

/-- ACTIVATE-POLICY executed by the row of one mode: a request with the other mode is not this row's; one whose parameters are not allowed is refused by whichever row executes it (R64; log 10). -/
def activatePolicy (mode : ActivationMode) (body : Tag → State → State) (t : Tag) (params : List Byte) (s : State) :
    State :=
  match decodeActivation params with
  | some m => if m = mode then body t s else s
  | none => reply t .badParameter [] s

/-- ACTIVATE_POLICY_START (R58). -/
def execActivatePolicyStart (s : State) : Host.Outcome State Fault Refusal :=
  event s (whenCommand (· == 25) (activatePolicy .start startActivation) s)

/-- ACTIVATE_POLICY_REPORT (R64). -/
def execActivatePolicyReport (s : State) : Host.Outcome State Fault Refusal :=
  event s (whenCommand (· == 25) (activatePolicy .report reportActivation) s)

/-! ## Chunk completions (R60, R61) -/

/-- The 64 decoded actions of a chunk are written into the image (R60). -/
def writeChunk (k : Fin 32) (bytes : List Byte) (s : State) : State :=
  { s with pu := { s.pu with image := s.pu.image.set k.val (decodeChunk bytes) } }

/-- A held transaction is released (R11): a broadcast is judged at once, a unit request becomes LOOKUP and looks up afresh. -/
def release (s : State) (t : Tag) : State :=
  if (s.tag t).unit = 0xFF then broadcastPolicyCheck t s
  else lookup t (s.setTag t { s.tag t with state := .lookup })

/-- The activation completes (R61): the generation advances, the undecodable count is kept, the state becomes IDLE, and the held transactions are released in list order. -/
def completeActivation (bad : Nat) (s : State) : State :=
  s.pu.held.foldl release
    { s with
      pu := { s.pu with generation := s.pu.generation + 1, undecodable := bad, activation := .idle, held := [] } }

/-- The chunk read of a RUNNING activation has its bytes (R60). -/
def chunkArrived (k : Fin 32) (bad : Nat) (bytes : List Byte) (s : State) : State :=
  let total := bad + undecodableCount bytes
  let s := writeChunk k bytes s
  if k.val = 31 then completeActivation total s
  else { s with pu := { s.pu with activation := .running (k + 1) total } }

/-- CHUNK_COMPLETION (R60): a dropped result is written into no image (R65). -/
def execChunkCompletion (s : State) : Host.Outcome State Fault Refusal :=
  event s (match s.ts.reading, s.pu.activation with
    | some ⟨.chunk, bytes⟩, .running k bad => settle (chunkArrived k bad bytes (freePort s))
    | some ⟨.droppedChunk, _⟩, _ => settle (freePort s)
    | _, _ => s)

end Sys2Proof.Machine
end

