-- ==== Sys2Proof/Machine/BranchPorts.lean ====
section
/-!
DEFINITION. The branch ports (R66 to R92): the taking of the head, attempts, retries and ends of exchanges, shutdown, the echo check, the judgement of frames heard, and PORT-CONTROL.
-/

namespace Sys2Proof.Machine

/-! ## The report of an end to the Dispatcher (R17) -/

/-- The causes with which a port ends a unit transaction (R17). -/
inductive EndCause where
  | ack (payload : List Byte)
  | reject
  | busy
  | unitTimeout
  | unitError
  | portDown
  deriving DecidableEq, Repr

/-- The outcome that a cause gives when the transaction is not cancelled (R17). -/
def EndCause.outcome : EndCause → OutcomeCode
  | .ack _ => .done
  | .reject => .unitReject
  | .busy => .unitBusy
  | .unitTimeout => .unitTimeout
  | .unitError => .unitError
  | .portDown => .portDown

/-- The payload that a DONE outcome carries: the ACK's (R17). -/
def EndCause.payload : EndCause → List Byte
  | .ack p => p
  | _ => []

/-- The fault that an outcome records at the end of a unit transaction (R17, R146). -/
def endFault (o : OutcomeCode) : Option FaultKind :=
  if o = .unitTimeout then some .unitTimeout else if o = .unitError then some .unitError else none

/-- The change-watch of the route on whose slot a transaction holds its reference (R96). -/
def watchOf (s : State) (slot : Option SlotNo) : Bool :=
  match slot with
  | some i => (s.slot i).route.any (·.watch)
  | none => false

/-- The reference held on a slot is released, if there is one (R17, R41). -/
def releaseSlot (slot : Option SlotNo) (s : State) : State :=
  match slot with
  | some i => releaseReference i s
  | none => s

/-- The fault of an ended unit transaction is recorded, with its unit, branch and tag (R17). -/
def recordEndFault (t : Tag) (o : OutcomeCode) (s : State) : State :=
  match endFault o with
  | some k =>
    recordFault
      { FaultRecord.plain k with
        unit := some (s.tag t).unit, branch := (s.tag t).facts.map (·.branch), tag := some t } s
  | none => s

/-- A branch port ends a unit transaction with a cause and, when a well-formed reply ended it, the reply's unit status (R17). -/
def endUnit (t : Tag) (cause : EndCause) (status : Option Byte) (s : State) : State :=
  let r := s.tag t
  let o := if r.cancelPending then .cancelled else cause.outcome
  let watch := watchOf s r.slot
  let s := releaseSlot r.slot (s.setTag t { r with slot := none })
  endTransaction t o status watch (if o = .done then cause.payload else []) (recordEndFault t o s)

/-- A queue entry removed by a disable or a shutdown is reported: a unit as PORT-DOWN, a member as failed (R70, R78). -/
def dropEntry (b : Branch) (e : QueueEntry) (s : State) : State :=
  match e.kind with
  | .unit => endUnit e.tag .portDown none s
  | .member => endMember e.tag b false s

/-- Every queue entry of a port is removed, head first, and reported (R70, R78). -/
def dropQueue (b : Branch) (s : State) : State :=
  (s.port b).queue.foldl (fun s e => dropEntry b e s) (s.setPort b { s.port b with queue := [] })

/-! ## Attempts and ends of exchanges (R73 to R77) -/

/-- An exchange with its next attempt begun: the attempt number advances and the attempt takes the next sequence (R74, R75). -/
def Exchange.nextAttempt (x : Exchange) (seq : BitVec 4) : Exchange := { x with attempt := x.attempt + 1, seq := seq }

/-- An attempt begins (R75): the command frame goes out, the exchange is SENDING, the watchdog starts, and EXCHANGES is counted. -/
def beginAttempt (b : Branch) (x : Exchange) (s : State) : State :=
  let p := s.port b
  count (.branch b .exchanges)
    (s.setPort b
      { p with
        exchange := .sending (x.nextAttempt p.nextSeq)
        nextSeq := p.nextSeq + 1
        responseTimer := none
        watchdog := some Config.watchdogTime })

/-- The end of an exchange is reported (R77, R90): an orphan releases its reference and reports nothing; a unit exchange reports its cause and status; a member reports whether it succeeded. -/
def reportEnd (b : Branch) (x : Exchange) (cause : EndCause) (succeeded : Bool) (status : Option Byte) (s : State) :
    State :=
  match x.orphan, x.tag, x.kind with
  | false, some t, .unit => endUnit t cause status s
  | false, some t, .member => endMember t b succeeded s
  | _, _, _ => releaseSlot x.slot s

/-- The port after the end of its exchange: timers stopped, IDLE, and DISABLED if it was DRAINING (R77). -/
def BranchPort.ended (p : BranchPort) : BranchPort :=
  { p with
    exchange := .idle
    responseTimer := none
    watchdog := none
    state := if p.state = .draining then .disabled else p.state }

/-- An exchange ends (R77). -/
def endExchange (b : Branch) (x : Exchange) (cause : EndCause) (succeeded : Bool) (status : Option Byte) (s : State) :
    State :=
  let s := reportEnd b x cause succeeded status s
  s.setPort b (s.port b).ended

/-- The transaction of an exchange is to be cancelled (R76; a member is not consulted, R88). -/
def cancelAsked (x : Exchange) (s : State) : Bool :=
  x.kind == .unit && x.tag.any fun t => (s.tag t).cancelPending

/-- An attempt fails: the exchange ends, or the attempt is retried, by the first condition of R76 that holds. -/
def failAttempt (b : Branch) (x : Exchange) (cause : EndCause) (s : State) : State :=
  if x.last then endExchange b x .portDown false none s
  else if cancelAsked x s then endExchange b x cause false none s
  else if s.config.retryLimit[b.val].val < x.attempt then endExchange b x cause false none s
  else beginAttempt b x (count (.branch b .retries) s)

/-- The fields of an exchange taken from a queue entry and the transaction's record (R73); none for a unit entry whose record has no route facts, which cannot be queued (log 14). -/
def formExchange (e : QueueEntry) (r : TagRecord) : Option Exchange :=
  match e.kind with
  | .unit =>
    r.facts.map fun f =>
      { kind := .unit, orphan := false, tag := some e.tag, physUnit := f.physUnit, op := r.op.getD .read
        physChannel := f.physChannel, length := r.length, payload := r.payload, timeoutClass := some f.timeoutClass
        slot := r.slot, attempt := 0, seq := 0, last := false }
  | .member =>
    some
      { kind := .member, orphan := false, tag := some e.tag, physUnit := Config.segmentBroadcast, op := .write
        physChannel := r.channel, length := r.length, payload := r.payload, timeoutClass := none
        slot := none, attempt := 0, seq := 0, last := false }

/-- The record of a transaction whose entry becomes the current exchange: ACTIVE for a unit, BCAST still for a member (R72). -/
def TagRecord.taken (r : TagRecord) (k : EntryKind) : TagRecord :=
  match k with
  | .unit => { r with state := .active }
  | .member => r

/-- The head entry becomes the current exchange and the first attempt begins (R72). -/
def takeEntry (b : Branch) (e : QueueEntry) (rest : List QueueEntry) (s : State) : State :=
  match formExchange e (s.tag e.tag) with
  | none => s
  | some x =>
    beginAttempt b x
      ((s.setTag e.tag ((s.tag e.tag).taken e.kind)).setPort b { s.port b with queue := rest })

/-- TAKE_HEAD (R72). -/
def execTakeHead (branch : Branch) (s : State) : Host.Outcome State Fault Refusal :=
  event s (match (s.port branch).state, (s.port branch).exchange, (s.port branch).queue with
    | .enabled, .idle, e :: rest => takeEntry branch e rest s
    | _, _, _ => s)

/-! ## Shutdown (R78) -/

/-- A port shuts down with a detail, its exchange and its queue ended PORT-DOWN (R78). -/
def shutDown (b : Branch) (detail : Byte) (s : State) : State :=
  let s := s.setPort b { s.port b with state := .shutDown }
  let s :=
    match (s.port b).exchange.current with
    | some x => endExchange b x .portDown false none s
    | none => s
  latchPortShut (recordFault { FaultRecord.plain .portShut with branch := some b, detail := detail } (dropQueue b s))

/-- TRANSMIT_WATCHDOG_EXPIRY (R79): a watchdog that has run out while SENDING shuts the port down with detail watchdog. -/
def execTransmitWatchdogExpiry (branch : Branch) (s : State) : Host.Outcome State Fault Refusal :=
  event s (match (s.port branch).exchange, (s.port branch).watchdog with
    | .sending _, some 0 => shutDown branch detailWatchdog s
    | _, _ => s)

/-! ## The echo check (R79 to R81) -/

/-- The time of a response timer: the timeout value of the exchange's class in units of 20 µs (R82). -/
def responseTime (x : Exchange) (s : State) : Nat :=
  match x.timeoutClass with
  | some k => Config.timeoutUnit * s.config.timeout[k.val].toNat
  | none => 0

/-- A good echo (R80): the echo fault count is cleared; a member ends succeeded, a unit exchange waits under the response timer. -/
def goodEcho (b : Branch) (x : Exchange) (s : State) : State :=
  let s := s.setPort b { s.port b with watchdog := none, echoFaults := 0 }
  match x.kind with
  | .member => endExchange b x .portDown true none s
  | .unit => s.setPort b { s.port b with exchange := .waiting x, responseTimer := some (responseTime x s) }

/-- A faulty echo (R81): it is counted, and at the limit the port shuts down; below it the attempt fails. -/
def faultyEcho (b : Branch) (x : Exchange) (s : State) : State :=
  let s :=
    count (.branch b .echoFaults)
      (s.setPort b { s.port b with watchdog := none, echoFaults := (s.port b).echoFaults + 1 })
  if s.config.echoLimit[b.val].val ≤ (s.port b).echoFaults then shutDown b detailEcho s
  else failAttempt b x .unitError s

/-- BRANCH_TRANSMISSION_END (R79): the echo is good when every byte heard equals the byte sent. -/
def execBranchTransmissionEnd (branch : Branch) (heard : List Byte) (s : State) : Host.Outcome State Fault Refusal :=
  event s (match (s.port branch).exchange with
    | .sending x => if heard = commandFrame x then goodEcho branch x s else faultyEcho branch x s
    | _ => s)

/-! ## Waiting for the reply (R82 to R87) -/

/-- The response timer stops. -/
def stopTimer (b : Branch) (s : State) : State := s.setPort b { s.port b with responseTimer := none }

/-- The cause that a reply code gives (R84). -/
def replyCause (code : Byte) (payload : List Byte) : EndCause :=
  if code = 0x00 then .ack payload else if code = 0x01 then .reject else .busy

/-- A frame heard in WAITING acts as it is judged: well-formed (R84), late (R85) or bad (R86). -/
def hearReply (b : Branch) (x : Exchange) (h : Heard) (s : State) : State :=
  match h with
  | .wellFormed code status payload =>
    endExchange b x (replyCause code payload) true (some status) (count (.branch b .goodReplies) (stopTimer b s))
  | .late => count (.branch b .lateReplies) s
  | .bad => failAttempt b x .unitError (count (.branch b .badReplies) (stopTimer b s))

/-- BRANCH_FRAME_HEARD (R83, R85): checked in WAITING, late in IDLE, part of the echo in SENDING. -/
def execBranchFrameHeard (branch : Branch) (bytes : List Byte) (s : State) : Host.Outcome State Fault Refusal :=
  event s (match (s.port branch).exchange with
    | .waiting x => hearReply branch x (judgeReply x bytes) s
    | .idle => count (.branch branch .lateReplies) s
    | .sending _ => s)

/-- The response timer has expired (R87): TIMEOUTS is counted and the attempt fails. -/
def responseExpired (b : Branch) (x : Exchange) (s : State) : State :=
  failAttempt b x .unitTimeout (count (.branch b .timeouts) (stopTimer b s))

/-- RESPONSE_TIMER_EXPIRY (R87): a response timer has run out while WAITING. -/
def execResponseTimerExpiry (branch : Branch) (s : State) : Host.Outcome State Fault Refusal :=
  event s (match (s.port branch).exchange, (s.port branch).responseTimer with
    | .waiting x, some 0 => responseExpired branch x s
    | _, _ => s)

/-! ## PORT-CONTROL (R68 to R70) -/

/-- The actions of PORT-CONTROL (R68). -/
inductive PortAction where
  | enable | disable | report
  deriving DecidableEq, Repr

/-- The action an action byte names (R180). -/
def PortAction.ofCode (b : Byte) : Option PortAction :=
  if b = 0x01 then some .enable else if b = 0x02 then some .disable else if b = 0x03 then some .report else none

/-- The branch and the action of a PORT-CONTROL whose parameters are allowed (R68). -/
def decodePortControl (params : List Byte) : Option (Branch × PortAction) :=
  if params.length = 2 ∧ (byteAt params 0).toNat ≤ 3 then
    (PortAction.ofCode (byteAt params 1)).map fun a => (Fin.ofNat 4 (byteAt params 0).toNat, a)
  else none

/-- The accepted reply of PORT-CONTROL: the report of the port as the command leaves it (R68). -/
def replyPort (t : Tag) (b : Branch) (s : State) : State := reply t .accepted (portReport (s.port b)) s

/-- PORT-CONTROL executed by the row of one action: a request with another action is not this row's; one whose parameters are not allowed is refused by whichever row executes it (R68; log 10). -/
def portControl (action : PortAction) (body : Tag → Branch → State → State) (t : Tag) (params : List Byte) (s : State) :
    State :=
  match decodePortControl params with
  | some (b, a) => if a = action then body t b s else s
  | none => reply t .badParameter [] s

/-- PORT-CONTROL ENABLE (R69). -/
def enableCommand (t : Tag) (b : Branch) (s : State) : State :=
  match (s.port b).state with
  | .draining => reply t .wrongState [] s
  | .enabled => replyPort t b s
  | _ => replyPort t b (s.setPort b { s.port b with state := .enabled, echoFaults := 0 })

/-- The exchange of a port that becomes DRAINING: its attempt is its last (R70, R73). -/
def ExchangeState.lastAttempt : ExchangeState → ExchangeState
  | .idle => .idle
  | .sending x => .sending { x with last := true }
  | .waiting x => .waiting { x with last := true }

/-- The port as PORT-CONTROL DISABLE leaves its state and its exchange (R70). -/
def BranchPort.disable (p : BranchPort) : BranchPort :=
  match p.state with
  | .enabled =>
    if p.exchange = .idle then { p with state := .disabled }
    else { p with state := .draining, exchange := p.exchange.lastAttempt }
  | .shutDown => { p with state := .disabled }
  | _ => p

/-- PORT-CONTROL DISABLE (R70): the entries' responses are appended first, and the reply follows them. -/
def disableCommand (t : Tag) (b : Branch) (s : State) : State :=
  let disabled := s.setPort b (s.port b).disable
  replyPort t b (if (s.port b).state = .enabled then dropQueue b disabled else disabled)

/-- PORT_CONTROL_ENABLE (R69). -/
def execPortControlEnable (s : State) : Host.Outcome State Fault Refusal :=
  event s (whenCommand (· == 11) (portControl .enable enableCommand) s)

/-- PORT_CONTROL_DISABLE (R70). -/
def execPortControlDisable (s : State) : Host.Outcome State Fault Refusal :=
  event s (whenCommand (· == 11) (portControl .disable disableCommand) s)

/-- PORT_CONTROL_REPORT (R68). -/
def execPortControlReport (s : State) : Host.Outcome State Fault Refusal :=
  event s (whenCommand (· == 11) (portControl .report replyPort) s)

end Sys2Proof.Machine
end

