-- ==== Sys2Proof/Machine/Invalidation.lean ====
section
/-!
DEFINITION. The Invalidation Queue Engine (R105 to R122): the processing event, and QUEUE-INVALIDATION, IQ-STATUS and IQ-RECOVER.
-/

namespace Sys2Proof.Machine

/-- A descriptor is malformed (R111). -/
def Descriptor.malformed (d : Descriptor) : Bool :=
  if d.kind = kindUnit then d.first.toNat == 0 || 239 < d.first.toNat
  else if d.kind = kindRange then
    d.count.toNat == 0 || d.first.toNat == 0 || 239 < d.first.toNat || 240 < d.first.toNat + d.count.toNat
  else !(d.kind == kindAll || d.kind == kindFence)

/-- The head is malformed: the engine enters ERROR with the descriptor at the head, and the error record and the fault name its sequence (R112). -/
def enterError (d : Descriptor) (s : State) : State :=
  recordFault { FaultRecord.plain .iqError with detail := d.seq }
    { s with iqe := { s.iqe with state := .error, errorRecord := some { seq := d.seq, kind := d.kind } } }

/-- The performed kind of a UNIT, RANGE or ALL descriptor: a RANGE of more than 8 units is performed as ALL (R114). -/
def Descriptor.performedKind (d : Descriptor) : Byte :=
  if d.kind = kindRange ∧ 8 < d.count.toNat then kindAll else d.kind

/-- The units of a UNIT or of a short RANGE descriptor, in ascending order (R113). -/
def Descriptor.units (d : Descriptor) : List Byte :=
  if d.kind = kindUnit then [d.first]
  else (List.range d.count.toNat).map (fun i => byteOf (d.first.toNat + i))

/-- The invalidations of a UNIT, RANGE or ALL descriptor reach the cache (R113, R114). -/
def performInvalidation (d : Descriptor) (s : State) : State :=
  if d.performedKind = kindAll then invalidateAll s else d.units.foldl (fun s u => invalidateUnit u s) s

/-- A performed UNIT, RANGE or ALL descriptor completes and leaves the head (R115). -/
def completeDescriptor (d : Descriptor) (s : State) : State :=
  { s with
    iqe :=
      { s.iqe with
        queue := s.iqe.queue.tail
        state := stateAfterHead s.iqe.queue.tail
        lastCompletion := some { seq := d.seq, requested := d.kind, performed := d.performedKind } } }

/-- A FENCE at the head is performed: it completes on a drained cache, and otherwise waits (R116). -/
def performFence (s : State) : State :=
  if s.rc.drained then completeFence s else { s with iqe := { s.iqe with state := .waitingFence } }

/-- The engine treats its head descriptor, whole (R110, R111). -/
def processHead (d : Descriptor) (s : State) : State :=
  if d.malformed then enterError d s
  else if d.kind = kindFence then performFence s
  else completeDescriptor d (performInvalidation d s)

/-- PROCESSING_EVENT (R110). -/
def execProcessingEvent (s : State) : Host.Outcome State Fault Refusal :=
  event s (match s.iqe.state, s.iqe.queue with
    | .running, d :: _ => processHead d s
    | _, _ => s)

/-- Descriptors joined to the queue are given consecutive sequences (R106). -/
def numberDescriptors (seq : Byte) : List Descriptor → List Descriptor
  | [] => []
  | d :: ds => { d with seq := seq } :: numberDescriptors (seq + 1) ds

/-- The descriptors of an accepted command join the tail; an IDLE engine becomes RUNNING (R106, R108). -/
def InvalidationEngine.append (q : InvalidationEngine) (ds : List Descriptor) : InvalidationEngine :=
  { q with
    queue := q.queue ++ numberDescriptors q.nextSeq ds
    nextSeq := q.nextSeq + byteOf ds.length
    state := if q.state = .idle then .running else q.state }

/-- QUEUE-INVALIDATION executed for a request (R108). -/
def queueInvalidationCommand (t : Tag) (params : List Byte) (s : State) : State :=
  let ds := decodeDescriptors params
  let free := Config.invalidationCapacity - s.iqe.queue.length
  if !(params.length == 4 || params.length == 8 || params.length == 12 || params.length == 16) then
    reply t .badParameter [] s
  else if free < ds.length then reply t .queueFull [byteOf free] s
  else
    reply t .accepted [s.iqe.nextSeq, byteOf ds.length, byteOf (free - ds.length)] { s with iqe := s.iqe.append ds }

/-- QUEUE_INVALIDATION (R108). -/
def execQueueInvalidation (s : State) : Host.Outcome State Fault Refusal :=
  event s (whenCommand (· == 13) queueInvalidationCommand s)

/-- IQ-STATUS executed for a request (R120). -/
def iqStatusCommand (t : Tag) (s : State) : State := reply t .accepted (engineReport s.iqe) s

/-- IQ_STATUS (R120). -/
def execIqStatus (s : State) : Host.Outcome State Fault Refusal :=
  event s (whenCommand (· == 14) (withoutParameters iqStatusCommand) s)

/-- The malformed head is removed without performing it (R119). -/
def InvalidationEngine.discardHead (q : InvalidationEngine) : InvalidationEngine :=
  { q with queue := q.queue.tail, state := stateAfterHead q.queue.tail }

/-- IQ-RECOVER executed for a request (R119). -/
def iqRecoverCommand (t : Tag) (s : State) : State :=
  if s.iqe.state = .error then reply t .accepted [] { s with iqe := s.iqe.discardHead }
  else reply t .wrongState [] s

/-- IQ_RECOVER (R119). -/
def execIqRecover (s : State) : Host.Outcome State Fault Refusal :=
  event s (whenCommand (· == 15) (withoutParameters iqRecoverCommand) s)

end Sys2Proof.Machine
end

