-- ==== Sys2Proof/Machine/Management.lean ====
section
/-!
DEFINITION. The management commands of the Management Unit, the live configuration and the Dispatcher: IDENTIFY, READ-CONFIG, SET-CONFIG, CANCEL, RESET-BRIDGE and the codes that name no command (R18, R166, R168 to R171).
-/

namespace Sys2Proof.Machine

/-! ## Identification and configuration (R168 to R170) -/

/-- The data of IDENTIFY (R168, R180): vendor code, part code, revision and the ten capacities. -/
def identity : List Byte :=
  [0x49, 0x57, 0x04, 0x16, 0x01, 16, 32, 4, 4, 8, 16, 4, 16, 32, 8]

/-- IDENTIFY executed for a request (R168). -/
def identifyCommand (t : Tag) (s : State) : State := reply t .accepted identity s

/-- IDENTIFY (R168). -/
def execIdentify (s : State) : Host.Outcome State Fault Refusal :=
  event s (whenCommand (· == 0) (withoutParameters identifyCommand) s)

/-- The code of the source of the live configuration (R180). -/
def ConfigSource.code : ConfigSource → Byte
  | .record => 0x00
  | .defaults => 0x01

/-- The report of the live configuration (R169, R180). -/
def configReport (c : LiveConfig) (mask : Byte) : List Byte :=
  configBytes c.values mask ++ [c.source.code, flagByte c.modified]

/-- READ-CONFIG executed for a request (R169). -/
def readConfigCommand (t : Tag) (s : State) : State := reply t .accepted (configReport s.sul.config s.es.mask) s

/-- READ_CONFIG (R169). -/
def execReadConfig (s : State) : Host.Outcome State Fault Refusal :=
  event s (whenCommand (· == 1) (withoutParameters readConfigCommand) s)

/-- One field of the live configuration is written (R170). -/
def ConfigValues.write (c : ConfigValues) : ConfigWrite → ConfigValues
  | .retryLimit b v => { c with retryLimit := c.retryLimit.set b.val v }
  | .echoLimit b v => { c with echoLimit := c.echoLimit.set b.val v }
  | .broadcast b v => { c with broadcast := c.broadcast.set b.val v }
  | .timeout k v => { c with timeout := c.timeout.set k.val v }
  | .broadcastClass v => { c with broadcastClass := v }
  | .autoSuspend v => { c with autoSuspend := v }
  | .autoSnapshot v => { c with autoSnapshot := v }

/-- The pairs of an accepted SET-CONFIG are applied in their order, and modified becomes set (R170). -/
def applyConfig (ws : List ConfigWrite) (s : State) : State :=
  { s with
    sul :=
      { s.sul with
        config := { s.sul.config with values := ws.foldl ConfigValues.write s.sul.config.values, modified := true } } }

/-- The writes that SET-CONFIG's parameters ask for, judged whole; nothing when the command is refused (R170). -/
def decodeSetConfig (params : List Byte) : Option (List ConfigWrite) :=
  if params.length = 0 ∨ 38 < params.length then none else decodeConfigWrites params

/-- SET-CONFIG executed for a request (R170). -/
def setConfigCommand (t : Tag) (params : List Byte) (s : State) : State :=
  match decodeSetConfig params with
  | none => reply t .badParameter [] s
  | some ws => reply t .accepted [byteOf ws.length] (applyConfig ws s)

/-- SET_CONFIG (R170). -/
def execSetConfig (s : State) : Host.Outcome State Fault Refusal :=
  event s (whenCommand (· == 2) setConfigCommand s)

/-! ## CANCEL (R18, R19) -/

/-- A tag leaves the waiters of a slot (R18). -/
def CacheSlot.withoutWaiter (c : CacheSlot) (t : Tag) : CacheSlot :=
  match c with
  | .filling u m w => .filling u m (w.filter (· ≠ t))
  | _ => c

/-- A LOOKUP transaction leaves the waiter list it stands in; the fill goes on (R18, R39). -/
def leaveWaiters (t : Tag) (s : State) : State :=
  { s with rc := { s.rc with slots := Vector.ofFn fun i => s.rc.slots[i.val].withoutWaiter t } }

/-- A HELD transaction leaves the held list (R18, R63). -/
def leaveHeld (t : Tag) (s : State) : State :=
  { s with pu := { s.pu with held := s.pu.held.filter (· ≠ t) } }

/-- The entry of a QUEUED transaction leaves its Branch Queue; the entries behind it move up (R18, R71). -/
def leaveQueue (t : Tag) (s : State) : State :=
  match (s.tag t).facts with
  | some f =>
    s.setPort f.branch
      { s.port f.branch with queue := (s.port f.branch).queue.filter (· ≠ { tag := t, kind := .unit }) }
  | none => s

/-- The reference of a transaction is released, and its record no longer names the slot (R17, R18, R41). -/
def dropReference (t : Tag) (s : State) : State :=
  releaseSlot (s.tag t).slot (s.setTag t { s.tag t with slot := none })

/-- The effect of CANCEL on the transaction under the named tag, with the result; NOT-CANCELLABLE changes nothing (R18). -/
def cancelTransaction (t : Tag) (s : State) : ResultCode × State :=
  match (s.tag t).state with
  | .lookup => (.accepted, endPlain t .cancelled (leaveWaiters t s))
  | .held => (.accepted, endPlain t .cancelled (leaveHeld t s))
  | .queued => (.accepted, endPlain t .cancelled (dropReference t (leaveQueue t s)))
  | .active => (.accepted, s.setTag t { s.tag t with cancelPending := true })
  | _ => (.notCancellable, s)

/-- CANCEL executed for a request: the CANCELLED response is appended before CANCEL's own reply (R18). -/
def cancelCommand (t : Tag) (params : List Byte) (s : State) : State :=
  if params.length != 1 || 15 < (byteAt params 0).toNat then reply t .badParameter [] s
  else
    let r := cancelTransaction (Fin.ofNat 16 (byteAt params 0).toNat) s
    reply t r.1 [] r.2

/-- CANCEL (R18). -/
def execCancel (s : State) : Host.Outcome State Fault Refusal :=
  event s (whenCommand (· == 12) cancelCommand s)

/-! ## RESET-BRIDGE and undefined codes (R171, R166) -/

/-- RESET-BRIDGE executed for a request: the reply is appended and the Management Unit halts until it has been transmitted (R171). -/
def resetBridgeCommand (t : Tag) (s : State) : State :=
  reply t .accepted [] { s with mu := { s.mu with halted := some t } }

/-- RESET_BRIDGE (R171). -/
def execResetBridge (s : State) : Host.Outcome State Fault Refusal :=
  event s (whenCommand (· == 27) (withoutParameters resetBridgeCommand) s)

/-- A code that names no command, its parameters unexamined (R166). -/
def unknownCommand (t : Tag) (_params : List Byte) (s : State) : State := reply t .unknownCommand [] s

/-- UNKNOWN_COMMAND (R166). -/
def execUnknownCommand (s : State) : Host.Outcome State Fault Refusal :=
  event s (whenCommand (28 ≤ ·) unknownCommand s)

end Sys2Proof.Machine
end

