-- ==== Sys2Proof/Machine/StartUp.lean ====
section
/-!
DEFINITION. The Start-Up Loader's reads and the application of a load (R172 to R175).
-/

namespace Sys2Proof.Machine

/-- The values a load applies: those of the valid record, or the defaults (R172, R174). -/
def appliedValues : Option LoadedRecord → ConfigValues
  | some r => r.values
  | none => ConfigValues.defaults

/-- The event mask a load applies: the record's, or none masked (R172, R174). -/
def appliedMask : Option LoadedRecord → Byte
  | some r => r.mask
  | none => 0

/-- The live configuration after a load (R174, step 1). -/
def loadedConfig (record : Option LoadedRecord) : LiveConfig :=
  { values := appliedValues record
    source := if record.isSome then .record else .defaults
    modified := false }

/-- An invalid record is recorded as the fault CONFIG-INVALID (R174, step 2). -/
def reportInvalid (record : Option LoadedRecord) (s : State) : State :=
  if record.isNone then recordFault (FaultRecord.plain .configInvalid) s else s

/-- The protection range after a load: the applied one, or the one kept under the lock (R174, step 4). -/
def TableStore.loadProtection (t : TableStore) (v : ConfigValues) : TableStore :=
  if t.lock then t else { t with protection := v.protection }

/-- The Policy Unit after a load (R174, step 5). -/
def PolicyUnit.loaded (p : PolicyUnit) (bad : Nat) : PolicyUnit :=
  { p with undecodable := bad, generation := 0, activation := .idle }

/-- A port after a load (R174, step 6). -/
def BranchPort.loaded (p : BranchPort) (enabled : Bool) : BranchPort :=
  { p with state := if enabled then .enabled else .disabled, echoFaults := 0, nextSeq := 0 }

/-- The receiver opens: IN-BREAK while a detected break is still held, otherwise RECEIVING (R159, R174, step 7). -/
def TrunkPort.opened (t : TrunkPort) : TrunkPort :=
  { t with receiver := if t.lineInBreak && t.breakTimer.isNone then .inBreak else .receiving, openFor := 0 }

/-- The load is applied in one event, and the loader returns to IDLE (R174). -/
def applyLoad (record : Option LoadedRecord) (bad : Nat) (s : State) : State :=
  let values := appliedValues record
  let s := reportInvalid record { s with sul := { state := .idle, config := loadedConfig record } }
  { s with
    es := { s.es with mask := appliedMask record }
    ts := s.ts.loadProtection values
    pu := s.pu.loaded bad
    ports := Vector.ofFn fun b => s.ports[b.val].loaded values.enabled[b.val]
    tp := s.tp.opened }

/-- The loader goes on to its next read (R173). -/
def nextLoaderRead (k : Fin 33) (record : Option LoadedRecord) (bad : Nat) (s : State) : State :=
  { s with sul := { s.sul with state := .reading (k + 1) record bad } }

/-- A read of the loader has its bytes (R173): read 0 is the record, judged as a whole; read k + 1 is policy chunk k, written into the image; after chunk 31 the load is applied. -/
def loaderArrived (k : Fin 33) (record : Option LoadedRecord) (bad : Nat) (bytes : List Byte) (s : State) : State :=
  if k.val = 0 then nextLoaderRead k (decodeRecord bytes) 0 s
  else
    let total := bad + undecodableCount bytes
    let s := writeChunk (Fin.ofNat 32 (k.val - 1)) bytes s
    if k.val = 32 then applyLoad record total s else nextLoaderRead k record total s

/-- LOADER_READ_COMPLETION (R173). -/
def execLoaderReadCompletion (s : State) : Host.Outcome State Fault Refusal :=
  event s (match s.ts.reading, s.sul.state with
    | some ⟨.loader, bytes⟩, .reading k record bad => settle (loaderArrived k record bad bytes (freePort s))
    | _, _ => s)

end Sys2Proof.Machine
end

