-- ==== Sys2Proof/Machine/Power.lean ====
section
/-!
DEFINITION. The three resets that a step brings about as a whole: power-on, power loss and soft reset (R3, R28, R65, R92, R104, R122, R143, R144, R156, R163, R164, R173).
-/

namespace Sys2Proof.Machine

/-! ## Soft reset -/

/-- The Trunk Port after a soft reset (R161, R163): the break detector is kept. -/
def TrunkPort.softReset (t : TrunkPort) : TrunkPort :=
  { t with receiver := .silent, openFor := 0, reception := none, intake := [], replies := [], transmitter := none }

/-- The Policy Unit after a soft reset (R65): the image, the undecodable count and the generation stand until the load overwrites them. -/
def PolicyUnit.softReset (p : PolicyUnit) : PolicyUnit := { p with activation := .idle, held := [] }

/-- A read in progress at a soft reset: its result is dropped when it arrives (R144). -/
def Reader.dropped : Reader → Reader
  | .fill _ => .droppedFill
  | .storeRead => .droppedStoreRead
  | .chunk => .droppedChunk
  | r => r

/-- The Table Store after a soft reset (R144): contents, operations, holdoff and protection are kept, WEL is cleared, and the waiting reads leave. -/
def TableStore.softReset (t : TableStore) : TableStore :=
  { t with
    wel := false
    reading := t.reading.map fun r => { r with reader := r.reader.dropped }
    fills := []
    refusedFills := []
    storeRead := none }

/-- The loader after a soft reset: WAIT-STORE, the live configuration standing until the load (R173, R175). -/
def StartUpLoader.softReset (l : StartUpLoader) : StartUpLoader := { l with state := .waitStore }

/-- The soft reset (R3, R161): every block takes its soft-reset values, and the loader leaves IDLE. -/
def softReset (s : State) : State :=
  settle
    { s with
      tp := s.tp.softReset
      dsp := Dispatcher.reset
      rc := RouteCache.reset
      pu := s.pu.softReset
      ports := Vector.replicate 4 BranchPort.reset
      ust := UnitStatusTable.reset
      iqe := InvalidationEngine.reset
      ts := s.ts.softReset
      frf := FaultFile.reset
      pm := PerformanceMonitor.reset
      es := EventSummary.reset
      mu := ManagementUnit.reset
      sul := s.sul.softReset }

/-! ## Power loss and power-on -/

/-- The bytes that a lost operation leaves, for the power loss with this number: each byte of the target old or new as the world chooses (R143; log 6). -/
def lostOperation (n : Nat) (o : Option Operation) (m : List Host.Cell) : List Host.Cell :=
  match o with
  | some o => applyOp (Config.powerLossTakesTarget n) m o.op
  | none => m

/-- The contents of the store after a power loss (R143): a suspended erase and a nested program each act on their own target. -/
def contentsAfterLoss (n : Nat) (t : TableStore) : List Host.Cell :=
  lostOperation n t.active (lostOperation n t.suspended t.contents)

/-- The bridge right after power-on over given store contents; the loader's first read begins in the power-on event (R173). -/
def powerOnState (pending : List Instr) (losses : Nat) (contents : List Host.Cell) : State :=
  { State.reset with
    pending := pending
    powerLosses := losses
    ts :=
      { TableStore.reset with
        contents := contents
        reading := some { reader := .loader, bytes := readBytes contents recordAddress 64 } } }

/-- The bridge without power (log 5): the store's contents are kept, nothing is in progress. -/
def powerOffState (pending : List Instr) (losses : Nat) (contents : List Host.Cell) : State :=
  { State.reset with
    pending := pending
    powered := false
    powerLosses := losses
    ts := { TableStore.reset with contents := contents, reading := none }
    sul := { StartUpLoader.reset with state := .idle } }

/-- POWER_LOSS (R143): without power already, nothing changes. -/
def execPowerLoss (s : State) : Host.Outcome State Fault Refusal :=
  .next
    (if s.powered then powerOffState s.pending (s.powerLosses + 1) (contentsAfterLoss s.powerLosses s.ts) else s)

/-- POWER_ON (R173): every block takes its power-on values. With power already applied it is a loss followed by a power-on (log 5). -/
def execPowerOn (s : State) : Host.Outcome State Fault Refusal :=
  .next
    (if s.powered then powerOnState s.pending (s.powerLosses + 1) (contentsAfterLoss s.powerLosses s.ts)
    else powerOnState s.pending s.powerLosses s.ts.contents)

end Sys2Proof.Machine
end

