-- ==== Sys2Proof/Machine/Reporting.lean ====
section
/-!
DEFINITION. The commands that read and clear the Fault Record File, the Event Summary, the Unit Status Table and the Performance Monitor (R99, R100, R148, R149, R151 to R154), and the expiry of the interval timer.
-/

namespace Sys2Proof.Machine

/-! ## Events (R153, R154) -/

/-- Each latch is cleared (R154; one that is not set stays as it is). -/
def clearLatches (s : State) : State :=
  { s with
    es := { s.es with fenceNotify := false, storeDone := false, portShut := false, counterSaturated := false } }

/-- EVENTS executed for a request (R154): the presences are noted before the latches are cleared. -/
def eventsCommand (t : Tag) (s : State) : State := reply t .accepted [presences s, s.es.mask] (clearLatches s)

/-- EVENTS (R154). -/
def execEvents (s : State) : Host.Outcome State Fault Refusal :=
  event s (whenCommand (· == 3) (withoutParameters eventsCommand) s)

/-- SET-EVENT-MASK executed for a request (R153). -/
def setEventMaskCommand (t : Tag) (params : List Byte) (s : State) : State :=
  if params.length != 1 then reply t .badParameter [] s
  else reply t .accepted [byteAt params 0] { s with es := { s.es with mask := byteAt params 0 } }

/-- SET_EVENT_MASK (R153). -/
def execSetEventMask (s : State) : Host.Outcome State Fault Refusal :=
  event s (whenCommand (· == 4) setEventMaskCommand s)

/-! ## Faults (R148, R149) -/

/-- The set of pending records, bit n for record n (R180). -/
def FaultFile.pendingSet (f : FaultFile) : Byte :=
  (List.finRange 8).foldl (fun b i => b ||| flagAt i.val f.records[i.val].isSome) 0

/-- The report of the fault file (R148, R180). -/
def faultReport (f : FaultFile) : List Byte :=
  [flagByte f.overflow, (f.firstPending.map (fun i => byteOf i.val)).getD 0xFF, f.pendingSet] ++
  (List.finRange 8).flatMap fun i => (f.records[i.val].map FaultRecord.bytes).getD []

/-- FAULT-READ executed for a request (R148). -/
def faultReadCommand (t : Tag) (s : State) : State := reply t .accepted (faultReport s.frf) s

/-- FAULT_READ (R148). -/
def execFaultRead (s : State) : Host.Outcome State Fault Refusal :=
  event s (whenCommand (· == 5) (withoutParameters faultReadCommand) s)

/-- The fault file after FAULT-CLEAR of a record number or of ALL; any other value is refused (R149). -/
def FaultFile.clear (f : FaultFile) (b : Byte) : Option FaultFile :=
  if b = 0xFF then some FaultFile.reset
  else if b.toNat < 8 then some (f.clearOne (Fin.ofNat 8 b.toNat)) else none

/-- FAULT-CLEAR executed for a request (R149). -/
def faultClearCommand (t : Tag) (params : List Byte) (s : State) : State :=
  match (if params.length = 1 then s.frf.clear (byteAt params 0) else none) with
  | none => reply t .badParameter [] s
  | some f => reply t .accepted [byteOf f.pendingCount, flagByte f.overflow] { s with frf := f }

/-- FAULT_CLEAR (R149). -/
def execFaultClear (s : State) : Host.Outcome State Fault Refusal :=
  event s (whenCommand (· == 6) faultClearCommand s)

/-! ## Unit status (R99, R100) -/

/-- The change flag of a unit is cleared (R99). -/
def UnitStatusTable.clearChanged (t : UnitStatusTable) (u : Byte) : UnitStatusTable :=
  t.setRecord u { t.record u with changed := false }

/-- Up to 16 units leave the head of the Change List, their change flags cleared; the overflow flag is cleared when the list is left empty (R99). -/
def UnitStatusTable.takeChanges (t : UnitStatusTable) : UnitStatusTable :=
  let t' := (t.changes.take 16).foldl UnitStatusTable.clearChanged t
  { t' with changes := t.changes.drop 16, overflow := t.overflow && !(t.changes.drop 16).isEmpty }

/-- CHANGES-READ executed for a request (R99). -/
def changesReadCommand (t : Tag) (s : State) : State :=
  let taken := s.ust.changes.take 16
  reply t .accepted ([flagByte s.ust.overflow, byteOf taken.length, byteOf (s.ust.changes.drop 16).length] ++ taken)
    { s with ust := s.ust.takeChanges }

/-- CHANGES_READ (R99). -/
def execChangesRead (s : State) : Host.Outcome State Fault Refusal :=
  event s (whenCommand (· == 7) (withoutParameters changesReadCommand) s)

/-- The report of a unit's record (R100, R180). -/
def unitReport (u : Byte) (r : UnitRecord) : List Byte :=
  [u, lastOutcomeCode r.lastOutcome, flagAt 0 r.status.isSome ||| flagAt 1 r.changed, r.status.getD 0]

/-- UNIT-STATUS-READ executed for a request (R100). -/
def unitStatusReadCommand (t : Tag) (params : List Byte) (s : State) : State :=
  let u := byteAt params 0
  if params.length != 1 || !isUnit u then reply t .badParameter [] s
  else reply t .accepted (unitReport u (s.ust.record u)) s

/-- UNIT_STATUS_READ (R100). -/
def execUnitStatusRead (s : State) : Host.Outcome State Fault Refusal :=
  event s (whenCommand (· == 8) unitStatusReadCommand s)

/-! ## Counters (R151, R152) -/

/-- The places of a group's counters among the 38: its first place and its length (R150, R180). -/
def counterGroup (g : Byte) : Option (Nat × Nat) :=
  if g.toNat ≤ 3 then some (7 * g.toNat, 7)
  else if g = 0x04 then some (28, 5)
  else if g = 0x05 then some (33, 5)
  else none

/-- The report of a group from the Snapshot Bank (R152, R180). -/
def counterReport (b : SnapshotBank) (g : Byte) (first n : Nat) : List Byte :=
  let values := (b.values.toList.drop first).take n
  let flags := (b.saturated.toList.drop first).take n
  [g, b.number, (List.range n).foldl (fun x i => x ||| flagAt i (flags.getD i false)) 0] ++ values.flatMap bytesOfWord

/-- COUNTERS-READ executed for a request (R152). -/
def countersReadCommand (t : Tag) (params : List Byte) (s : State) : State :=
  match (if params.length = 1 then counterGroup (byteAt params 0) else none) with
  | none => reply t .badParameter [] s
  | some (first, n) => reply t .accepted (counterReport s.pm.bank (byteAt params 0) first n) s

/-- COUNTERS_READ (R152). -/
def execCountersRead (s : State) : Host.Outcome State Fault Refusal :=
  event s (whenCommand (· == 9) countersReadCommand s)

/-- A snapshot (R151): the bank takes the live counters and the saturation set, which start again from zero, and its number advances. -/
def PerformanceMonitor.snapshot (m : PerformanceMonitor) : PerformanceMonitor :=
  { m with
    live := Vector.replicate 38 0
    saturated := Vector.replicate 38 false
    bank := { values := m.live, saturated := m.saturated, number := m.bank.number + 1 } }

/-- SNAPSHOT executed for a request (R151). -/
def snapshotCommand (t : Tag) (s : State) : State :=
  reply t .accepted [s.pm.bank.number + 1] { s with pm := s.pm.snapshot }

/-- SNAPSHOT (R151). -/
def execSnapshot (s : State) : Host.Outcome State Fault Refusal :=
  event s (whenCommand (· == 10) (withoutParameters snapshotCommand) s)

/-- The interval timer expires and restarts; a snapshot is taken when auto-snapshot is set (R151). -/
def intervalExpiry (s : State) : State :=
  let m := if s.config.autoSnapshot then s.pm.snapshot else s.pm
  { s with pm := { m with interval := Config.intervalTime } }

/-- INTERVAL_TIMER_EXPIRY (R151): the interval timer has run out. -/
def execIntervalTimerExpiry (s : State) : Host.Outcome State Fault Refusal :=
  event s (if s.pm.interval = 0 then intervalExpiry s else s)

end Sys2Proof.Machine
end

