-- ==== Sys2Proof/Machine/TableStore.lean ====
section
/-!
DEFINITION. The Table Store's operations and commands (R123 to R144): completion, suspension, resume, protection, STORE-READ and STORE-STATUS.
-/

namespace Sys2Proof.Machine

/-! ## Events of the store -/

/-- The active operation completes (R126): the target is written, a SUSPENDING phase returns to none, the holdoff stops, STORE-DONE is latched, and the waiting fills are judged again. -/
def completeOperation (o : Operation) (s : State) : State :=
  rejudgeFills
    (latchStoreDone
      { s with
        ts :=
          { s.ts with
            contents := applyOp (fun _ => true) s.ts.contents o.op
            active := none
            phase := if s.ts.phase.isSuspending then .noSuspension else s.ts.phase
            holdoff := none } })

/-- OPERATION_COMPLETION (R126). -/
def execOperationCompletion (s : State) : Host.Outcome State Fault Refusal :=
  event s (match s.ts.active with
    | some o => settle (completeOperation o s)
    | none => s)

/-- The suspension takes effect (R132): the active operation becomes the suspended one with its running time, and the waiting fills are judged again. -/
def suspendEffective (owner : Owner) (o : Operation) (s : State) : State :=
  rejudgeFills { s with ts := { s.ts with active := none, suspended := some o, phase := .suspended owner } }

/-- SUSPEND_EFFECTIVE (R132). -/
def execSuspendEffective (s : State) : Host.Outcome State Fault Refusal :=
  event s (match s.ts.phase, s.ts.active with
    | .suspending owner, some o => settle (suspendEffective owner o s)
    | _, _ => s)

/-- HOLDOFF_EXPIRY (R134): a holdoff that has run out stops and the waiting fills are judged again, which begins an AUTO suspension if one waits for it (R138, R139; log 13). -/
def execHoldoffExpiry (s : State) : Host.Outcome State Fault Refusal :=
  event s (match s.ts.holdoff with
    | some 0 => settle (rejudgeFills { s with ts := { s.ts with holdoff := none } })
    | _ => s)

/-- The STORE-READ in execution has its bytes: its reply is built and appended, or built and discarded when a trunk break left it tagless, and its entry leaves the queue (R141, R167). -/
def finishStoreRead (bytes : List Byte) (s : State) : State :=
  match s.mu.queue with
  | .executing (some t) :: _ => reply t .accepted bytes s
  | .executing none :: _ => dropManagementHead s
  | _ => s

/-- STORE_READ_COMPLETION (R141). -/
def execStoreReadCompletion (s : State) : Host.Outcome State Fault Refusal :=
  event s (match s.ts.reading with
    | some ⟨.storeRead, bytes⟩ => settle (finishStoreRead bytes (freePort s))
    | some ⟨.droppedStoreRead, _⟩ => settle (freePort s)
    | _ => s)

/-! ## Write enabling (R127) -/

/-- WEL is set or cleared. -/
def setWel (b : Bool) (s : State) : State := { s with ts := { s.ts with wel := b } }

/-- STORE-WRITE-ENABLE executed for a request (R127). -/
def writeEnableCommand (t : Tag) (s : State) : State :=
  if s.ts.active.isSome then reply t .busy [] s else reply t .accepted [] (setWel true s)

/-- STORE_WRITE_ENABLE (R127). -/
def execStoreWriteEnable (s : State) : Host.Outcome State Fault Refusal :=
  event s (whenCommand (· == 16) (withoutParameters writeEnableCommand) s)

/-- STORE-WRITE-DISABLE executed for a request (R127). -/
def writeDisableCommand (t : Tag) (s : State) : State := reply t .accepted [] (setWel false s)

/-- STORE_WRITE_DISABLE (R127). -/
def execStoreWriteDisable (s : State) : Host.Outcome State Fault Refusal :=
  event s (whenCommand (· == 17) (withoutParameters writeDisableCommand) s)

/-! ## Program and erase (R128, R129) -/

/-- A sector lies in the protection range (R130). -/
def TableStore.isProtected (t : TableStore) (sector : Nat) : Bool :=
  match t.protection with
  | some (f, l) => f.val ≤ sector && sector ≤ l.val
  | none => false

/-- A policy activation is RUNNING and the sector holds the policy (R62). -/
def activationRefuses (s : State) (sector : Nat) : Bool :=
  s.pu.activation != .idle && (sector == 4 || sector == 5)

/-- Checks 2 to 7 of R128, with the third check given: the operation is refused with a result, or accepted. -/
def judgeOperation (s : State) (sector : Nat) (suspendedRefuses : Bool) : ResultCode :=
  if s.ts.active.isSome then .busy
  else if suspendedRefuses then .wrongState
  else if activationRefuses s sector then .busy
  else if !s.ts.wel then .notEnabled
  else if s.ts.isProtected sector then .isProtected
  else .accepted

/-- An accepted operation becomes the active one with running time 0; WEL is cleared and the waiting fills are judged again (R128, R129, R138). -/
def startOperation (o : StoreOp) (s : State) : State :=
  rejudgeFills { s with ts := { s.ts with wel := false, active := some { op := o, ran := 0 } } }

/-- A program or erase after its first check: judged, carried out or refused, and answered; a PROTECTED refusal clears WEL (R128, R129). -/
def operationCommand (t : Tag) (o : StoreOp) (suspendedRefuses : Bool) (s : State) : State :=
  match judgeOperation s o.sector suspendedRefuses with
  | .accepted => settle (reply t .accepted [] (startOperation o s))
  | .isProtected => reply t .isProtected [] (setWel false s)
  | r => reply t r [] s

/-- Check 1 of R128 refuses the parameters. -/
def programRefused (params : List Byte) : Bool :=
  let a := addressOf (byteAt params 0) (byteAt params 1)
  params.length < 3 || 34 < params.length || Config.storeBytes ≤ a ||
  Config.pageBytes < a % Config.pageBytes + (params.length - 2)

/-- Check 3 of R128: the suspended operation is a program, or an erase of the program's own sector. -/
def suspendedRefusesProgram (t : TableStore) (sector : Nat) : Bool :=
  t.suspended.any fun o =>
    match o.op with
    | .program _ _ => true
    | .erase k => k == sector

/-- STORE-PROGRAM executed for a request (R128). -/
def programCommand (t : Tag) (params : List Byte) (s : State) : State :=
  if programRefused params then reply t .badParameter [] s
  else
    let o : StoreOp := .program (addressOf (byteAt params 0) (byteAt params 1)) (params.drop 2)
    operationCommand t o (suspendedRefusesProgram s.ts o.sector) s

/-- STORE_PROGRAM (R128). -/
def execStoreProgram (s : State) : Host.Outcome State Fault Refusal :=
  event s (whenCommand (· == 18) programCommand s)

/-- STORE-ERASE executed for a request (R129). -/
def eraseCommand (t : Tag) (params : List Byte) (s : State) : State :=
  if params.length != 1 || 7 < (byteAt params 0).toNat then reply t .badParameter [] s
  else operationCommand t (.erase (byteAt params 0).toNat) s.ts.suspended.isSome s

/-- STORE_ERASE (R129). -/
def execStoreErase (s : State) : Host.Outcome State Fault Refusal :=
  event s (whenCommand (· == 19) eraseCommand s)

/-! ## Suspend and resume (R131, R133) -/

/-- The store's judgement of STORE-SUSPEND: the result, and the suspend phase it leaves (R131). -/
def TableStore.judgeSuspend (t : TableStore) : ResultCode × SuspendPhase :=
  if t.nested then (.wrongState, t.phase)
  else
    match t.phase with
    | .suspending .auto => (.accepted, .suspending .management)
    | .suspended .auto => (.accepted, .suspended .management)
    | .suspending .management => (.wrongState, t.phase)
    | _ =>
      if t.active.isNone then (.wrongState, t.phase)
      else if t.holdoff.isSome then (.busy, t.phase)
      else (.accepted, .suspending .management)

/-- STORE-SUSPEND executed for a request (R131). -/
def suspendCommand (t : Tag) (s : State) : State :=
  reply t s.ts.judgeSuspend.1 [] { s with ts := { s.ts with phase := s.ts.judgeSuspend.2 } }

/-- STORE_SUSPEND (R131). -/
def execStoreSuspend (s : State) : Host.Outcome State Fault Refusal :=
  event s (whenCommand (· == 20) (withoutParameters suspendCommand) s)

/-- The store's judgement of STORE-RESUME (R133). Check 2 asks for a MANAGEMENT suspension, so a nested program under an AUTO suspension is answered WRONG-STATE; R135's table gives BUSY beside a nested program without naming the owner (DESIGN CHOICE, log 25). -/
def TableStore.judgeResume (t : TableStore) : ResultCode :=
  match t.phase with
  | .suspended .management => if t.active.isSome then .busy else .accepted
  | _ => .wrongState

/-- STORE-RESUME executed for a request (R133). -/
def resumeCommand (t : Tag) (s : State) : State :=
  match s.ts.judgeResume with
  | .accepted => settle (reply t .accepted [] (resume s))
  | r => reply t r [] s

/-- STORE_RESUME (R133). -/
def execStoreResume (s : State) : Host.Outcome State Fault Refusal :=
  event s (whenCommand (· == 21) (withoutParameters resumeCommand) s)

/-! ## STORE-READ, STORE-STATUS, STORE-PROTECT (R141, R142, R130) -/

/-- Check 1 of R141 refuses the parameters. -/
def storeReadRefused (params : List Byte) : Bool :=
  let a := addressOf (byteAt params 0) (byteAt params 1)
  let n := (byteAt params 2).toNat
  params.length != 3 || n == 0 || 47 < n || Config.storeBytes < a + n

/-- Some byte of a range lies in the sector of the suspended operation (R141, check 3). -/
def TableStore.rangeSuspended (t : TableStore) (a n : Nat) : Bool :=
  t.suspended.any fun o => a / Config.sectorBytes ≤ o.op.sector && o.op.sector ≤ (a + n - 1) / Config.sectorBytes

/-- The head request becomes the command in execution (R164, R165). -/
def markExecuting (t : Tag) (s : State) : State :=
  { s with mu := { s.mu with queue := .executing (some t) :: s.mu.queue.tail } }

/-- STORE-READ executed for a request (R141): refused, or accepted and waiting for the read port. -/
def storeReadCommand (t : Tag) (params : List Byte) (s : State) : State :=
  let a := addressOf (byteAt params 0) (byteAt params 1)
  let n := (byteAt params 2).toNat
  if storeReadRefused params then reply t .badParameter [] s
  else if s.ts.active.isSome then reply t .busy [] s
  else if s.ts.rangeSuspended a n then reply t .busy [] s
  else settle (markExecuting t { s with ts := { s.ts with storeRead := some { address := a, count := n } } })

/-- STORE_READ (R141). -/
def execStoreRead (s : State) : Host.Outcome State Fault Refusal :=
  event s (whenCommand (· == 22) storeReadCommand s)

/-- STORE-STATUS executed for a request (R142). -/
def storeStatusCommand (t : Tag) (s : State) : State := reply t .accepted (storeReport s.ts) s

/-- STORE_STATUS (R142). -/
def execStoreStatus (s : State) : Host.Outcome State Fault Refusal :=
  event s (whenCommand (· == 23) (withoutParameters storeStatusCommand) s)

/-- The range and lock that STORE-PROTECT's parameters ask for, unless check 1 of R130 refuses them. -/
def decodeProtect (params : List Byte) : Option (Option (Fin 8 × Fin 8) × Bool) :=
  if params.length != 4 then none
  else
    match decodeProtection (byteAt params 0) (byteAt params 1) (byteAt params 2), flagParameter (byteAt params 3) with
    | some range, some lock => some (range, lock)
    | _, _ => none

/-- STORE-PROTECT executed for a request (R130). -/
def protectCommand (t : Tag) (params : List Byte) (s : State) : State :=
  match decodeProtect params with
  | none => reply t .badParameter [] s
  | some (range, lock) =>
    if s.ts.lock then reply t .isProtected [] s
    else if !s.ts.wel then reply t .notEnabled [] s
    else reply t .accepted [] { s with ts := { s.ts with protection := range, lock := lock, wel := false } }

/-- STORE_PROTECT (R130). -/
def execStoreProtect (s : State) : Host.Outcome State Fault Refusal :=
  event s (whenCommand (· == 24) protectCommand s)

end Sys2Proof.Machine
end

