-- ==== Sys2Proof/Machine/TrunkLine.lean ====
section
/-!
DEFINITION. The Trunk Port (R157 to R163): line conditions, frame completion, transmission, and the trunk break with its effects on every block (R22, R45, R63, R71, R89, R167).
-/

namespace Sys2Proof.Machine

/-! ## Reception (R158, R159) -/

/-- A frame is discarded for its size or its check (R158, R176). -/
def frameRefused (frame : List Byte) : Bool :=
  frame.length < Config.trunkFrameMin || Config.trunkFrameMax < frame.length || !checkMatches frame

/-- A complete frame has one of the three results of R158. -/
def receiveFrame (frame : List Byte) (s : State) : State :=
  if frameRefused frame then recordFault (FaultRecord.plain .frameCheck) (count (.trunk .frameCheckErrors) s)
  else if Config.intakeCapacity ≤ s.tp.intake.length then count (.trunk .intakeDiscards) s
  else count (.trunk .framesReceived) { s with tp := { s.tp with intake := s.tp.intake ++ [frame] } }

/-- The receiver gathers a frame when it is RECEIVING and was so when the frame began (R159). -/
def TrunkPort.gathers (t : TrunkPort) (frame : LineFrame) : Bool := t.receiver = .receiving && frame.age ≤ t.openFor

/-- FRAME_COMPLETION (R158): of a frame that the receiver gathers, with the line out of break; any other frame is lost (R159). -/
def execFrameCompletion (frame : LineFrame) (s : State) : Host.Outcome State Fault Refusal :=
  event s (if s.tp.gathers frame = true ∧ s.tp.lineInBreak = false then receiveFrame frame.bytes s else s)

/-- The frame that a break ends: the bytes received before it of a frame that the receiver gathers (R159). -/
def TrunkPort.cutReception (t : TrunkPort) (received : LineFrame) : Option (List Byte) :=
  if t.gathers received = true ∧ received.bytes ≠ [] then some received.bytes else none

/-- LINE_ENTERS_BREAK (R159, R162): the break timer starts, and a frame that is arriving ends there. -/
def execLineEntersBreak (received : LineFrame) (s : State) : Host.Outcome State Fault Refusal :=
  event s
    (if s.tp.lineInBreak then s
    else
      { s with
        tp :=
          { s.tp with
            lineInBreak := true
            breakTimer := some 0
            reception := s.tp.cutReception received } })

/-! ## Transmission (R160, R161) -/

/-- START_OF_TRANSMISSION (R160): ATTENTION is stamped and the frame of the head response goes out. -/
def execStartOfTransmission (s : State) : Host.Outcome State Fault Refusal :=
  event s (match s.tp.transmitter, s.tp.replies with
    | none, r :: _ => { s with tp := { s.tp with transmitter := some (responseFrame (attention s) r) } }
    | _, _ => s)

/-- The response at the head has been sent: it leaves the Reply Queue, its record becomes FREE, and the transmitter is IDLE (R161). -/
def finishResponse (r : Response) (s : State) : State :=
  { s.setTag r.tag TagRecord.blank with
    tp := { s.tp with replies := s.tp.replies.tail, transmitter := none } }

/-- TRANSMISSION_END (R161): when the response is the reply to RESET-BRIDGE, the soft reset follows in the same event. -/
def execTransmissionEnd (s : State) : Host.Outcome State Fault Refusal :=
  event s (match s.tp.transmitter, s.tp.replies with
    | some _, r :: _ =>
      if s.mu.halted = some r.tag then softReset (finishResponse r s) else finishResponse r s
    | _, _ => s)

/-! ## Trunk break (R162, R22) -/

/-- The Trunk Port at a detected break (R162, steps 1 to 4). -/
def TrunkPort.broken (t : TrunkPort) : TrunkPort :=
  { t with
    receiver := if t.receiver = .receiving then .inBreak else t.receiver
    openFor := 0
    reception := none
    intake := []
    replies := []
    transmitter := none
    breakTimer := none }

/-- The Management Queue after a break: a command whose execution has begun stays, tagless, and the halt ends (R167, R171). -/
def ManagementUnit.broken (m : ManagementUnit) : ManagementUnit :=
  { queue := (m.queue.filter fun e => match e with | .executing _ => true | .waiting _ => false).map
      fun _ => .executing none
    halted := none }

/-- An exchange as an orphan (R89): its last attempt, without a tag. -/
def Exchange.orphaned (x : Exchange) : Exchange := { x with orphan := true, last := true, tag := none }

/-- A port after a break: its queue is empty and its exchange an orphan (R71, R89). -/
def BranchPort.broken (p : BranchPort) : BranchPort :=
  { p with
    queue := []
    exchange :=
      match p.exchange with
      | .idle => .idle
      | .sending x => .sending x.orphaned
      | .waiting x => .waiting x.orphaned }

/-- The reference of a QUEUED transaction is released at a break; an ACTIVE one passes to the orphan (R22, R40, R41). -/
def releaseQueued (s : State) (t : Tag) : State :=
  if (s.tag t).state = .queued then releaseSlot (s.tag t).slot s else s

/-- A FILLING slot is dropped at a break and its fill withdrawn; the loss of a refill-marked one is reported (R44, R45). -/
def dropFilling (s : State) (i : SlotNo) : State :=
  match s.slot i with
  | .filling _ mark _ =>
    let dropped := withdrawFill i (s.setSlot i .empty)
    if mark then drainReport dropped else dropped
  | _ => s

/-- The Route Cache at a break: references of QUEUED transactions are released and FILLING slots dropped (R45). -/
def breakCache (s : State) : State :=
  (List.finRange 32).foldl dropFilling ((List.finRange 16).foldl releaseQueued s)

/-- Every transaction record becomes FREE; the dispatch sequence counter keeps its value (R22). -/
def freeTags (s : State) : State :=
  { s with dsp := { s.dsp with tags := Vector.replicate 16 TagRecord.blank } }

/-- The effects of a detected break on every block (R22, R162; log 23). -/
def breakEffects (s : State) : State :=
  let s := count (.trunk .breaks) { s with tp := s.tp.broken }
  let s := freeTags (breakCache s)
  { s with
    mu := s.mu.broken
    pu := { s.pu with held := [] }
    ports := Vector.ofFn fun b => s.ports[b.val].broken }

/-- A break whose timer has reached 200 µs is detected (R162). -/
def detectBreak (s : State) : State :=
  if s.tp.lineInBreak = true ∧ s.tp.breakTimer = some Config.breakTime then settle (breakEffects s) else s

/-- TRUNK_BREAK (R162): the break timer of a held line reaches 200 µs. -/
def execTrunkBreak (s : State) : Host.Outcome State Fault Refusal := event s (detectBreak s)

/-- The line is idle again (R162): the break timer stops, and an IN-BREAK receiver becomes RECEIVING. -/
def TrunkPort.idleLine (t : TrunkPort) : TrunkPort :=
  { t with
    lineInBreak := false
    breakTimer := none
    reception := none
    receiver := if t.receiver = .inBreak then .receiving else t.receiver }

/-- A return to idle: a frame that a short break has ended is judged as complete with the bytes received before the break (R159, R158). -/
def returnToIdle (s : State) : State :=
  match s.tp.reception with
  | some frame => receiveFrame frame { s with tp := s.tp.idleLine }
  | none => { s with tp := s.tp.idleLine }

/-- LINE_RETURNS_TO_IDLE (R159, R162): a break held for 200 µs is detected before the line leaves it (log 24). -/
def execLineReturnsToIdle (s : State) : Host.Outcome State Fault Refusal := event s (returnToIdle (detectBreak s))

end Sys2Proof.Machine
end

