-- ==== Sys2Proof/Machine/Dispatch.lean ====
section
/-!
DEFINITION. The meaning of every command: one arm per row of spec/opcode_table.json.
-/

namespace Sys2Proof.Machine

/-- The effect of a command on everything but the queue of pending commands. -/
def exec (i : Instr) (s : State) : Host.Outcome State Fault Refusal :=
  match i with
  | .powerOn => Sys2Proof.Machine.execPowerOn s
  | .powerLoss => Sys2Proof.Machine.execPowerLoss s
  | .lineEntersBreak received => Sys2Proof.Machine.execLineEntersBreak received s
  | .lineReturnsToIdle => Sys2Proof.Machine.execLineReturnsToIdle s
  | .trunkBreak => Sys2Proof.Machine.execTrunkBreak s
  | .frameCompletion frame => Sys2Proof.Machine.execFrameCompletion frame s
  | .dispatch => Sys2Proof.Machine.execDispatch s
  | .fillCompletion => Sys2Proof.Machine.execFillCompletion s
  | .fillRefusal slot => Sys2Proof.Machine.execFillRefusal slot s
  | .takeHead branch => Sys2Proof.Machine.execTakeHead branch s
  | .branchTransmissionEnd branch heard => Sys2Proof.Machine.execBranchTransmissionEnd branch heard s
  | .transmitWatchdogExpiry branch => Sys2Proof.Machine.execTransmitWatchdogExpiry branch s
  | .responseTimerExpiry branch => Sys2Proof.Machine.execResponseTimerExpiry branch s
  | .branchFrameHeard branch bytes => Sys2Proof.Machine.execBranchFrameHeard branch bytes s
  | .startOfTransmission => Sys2Proof.Machine.execStartOfTransmission s
  | .transmissionEnd => Sys2Proof.Machine.execTransmissionEnd s
  | .operationCompletion => Sys2Proof.Machine.execOperationCompletion s
  | .suspendEffective => Sys2Proof.Machine.execSuspendEffective s
  | .holdoffExpiry => Sys2Proof.Machine.execHoldoffExpiry s
  | .storeReadCompletion => Sys2Proof.Machine.execStoreReadCompletion s
  | .chunkCompletion => Sys2Proof.Machine.execChunkCompletion s
  | .loaderReadCompletion => Sys2Proof.Machine.execLoaderReadCompletion s
  | .intervalTimerExpiry => Sys2Proof.Machine.execIntervalTimerExpiry s
  | .processingEvent => Sys2Proof.Machine.execProcessingEvent s
  | .identify => Sys2Proof.Machine.execIdentify s
  | .readConfig => Sys2Proof.Machine.execReadConfig s
  | .setConfig => Sys2Proof.Machine.execSetConfig s
  | .events => Sys2Proof.Machine.execEvents s
  | .setEventMask => Sys2Proof.Machine.execSetEventMask s
  | .faultRead => Sys2Proof.Machine.execFaultRead s
  | .faultClear => Sys2Proof.Machine.execFaultClear s
  | .changesRead => Sys2Proof.Machine.execChangesRead s
  | .unitStatusRead => Sys2Proof.Machine.execUnitStatusRead s
  | .countersRead => Sys2Proof.Machine.execCountersRead s
  | .snapshot => Sys2Proof.Machine.execSnapshot s
  | .portControlEnable => Sys2Proof.Machine.execPortControlEnable s
  | .portControlDisable => Sys2Proof.Machine.execPortControlDisable s
  | .portControlReport => Sys2Proof.Machine.execPortControlReport s
  | .cancel => Sys2Proof.Machine.execCancel s
  | .queueInvalidation => Sys2Proof.Machine.execQueueInvalidation s
  | .iqStatus => Sys2Proof.Machine.execIqStatus s
  | .iqRecover => Sys2Proof.Machine.execIqRecover s
  | .storeWriteEnable => Sys2Proof.Machine.execStoreWriteEnable s
  | .storeWriteDisable => Sys2Proof.Machine.execStoreWriteDisable s
  | .storeProgram => Sys2Proof.Machine.execStoreProgram s
  | .storeErase => Sys2Proof.Machine.execStoreErase s
  | .storeSuspend => Sys2Proof.Machine.execStoreSuspend s
  | .storeResume => Sys2Proof.Machine.execStoreResume s
  | .storeRead => Sys2Proof.Machine.execStoreRead s
  | .storeStatus => Sys2Proof.Machine.execStoreStatus s
  | .storeProtect => Sys2Proof.Machine.execStoreProtect s
  | .activatePolicyStart => Sys2Proof.Machine.execActivatePolicyStart s
  | .activatePolicyReport => Sys2Proof.Machine.execActivatePolicyReport s
  | .cacheRead => Sys2Proof.Machine.execCacheRead s
  | .resetBridge => Sys2Proof.Machine.execResetBridge s
  | .unknownCommand => Sys2Proof.Machine.execUnknownCommand s

end Sys2Proof.Machine
end

