-- ==== Sys2Proof/Machine/Step.lean ====
section
/-!
DEFINITION. One step of the bridge: the command at the front of the queue is executed whole; on an empty queue one microsecond passes (log 3, log 4).
-/

namespace Sys2Proof.Machine

/-- The state with a command taken off the queue of pending commands. -/
def State.withPending (s : State) (cs : List Instr) : State := { s with pending := cs }

/-- One step of the bridge. -/
def step (s : State) : Host.Outcome State Fault Refusal :=
  match s.pending with
  | [] => .next (tick s)
  | c :: rest => exec c (s.withPending rest)

/-- The state with the command that a word spells put at the front of its queue; unchanged where the word spells none (log 3). -/
def State.withFetchWord (s : State) (nbits w : Nat) : State :=
  match decodeTableWord nbits w with
  | some c => s.withPending (c :: s.pending)
  | none => s

end Sys2Proof.Machine
end

