-- ==== Sys2Proof/Safety.lean ====
section
/-!
DEFINITION. What a sound state of the bridge is, block by block, in the terms the claims use: the capacities, and the relations between fields that the rules state as holding at all times.
-/

namespace Sys2Proof.Machine

/-- The Intake Queue, the Branch Queues, the Management Queue, the Invalidation Queue and the Change List are within their capacities (R157, R71, R164, R107, R97). The bound of the Reply Queue follows from `RepliesHeld`. -/
abbrev WithinCapacity (s : State) : Prop :=
  s.tp.intake.length ≤ Config.intakeCapacity ∧
  (∀ b : Branch, (s.port b).queue.length ≤ Config.branchQueueCapacity) ∧
  s.mu.queue.length ≤ Config.managementCapacity ∧
  s.iqe.queue.length ≤ Config.invalidationCapacity ∧
  s.ust.changes.length ≤ Config.changeListCapacity

/-- The Change List and the change flags agree (R97): a unit is in the list exactly when its flag is set, and no unit is in it twice. -/
abbrev ChangeListAgrees (t : UnitStatusTable) : Prop :=
  t.changes.Nodup ∧ (∀ u ∈ t.changes, isUnit u = true) ∧
  ∀ i : Fin 239, t.units[i.val].changed = true ↔ byteOf (i.val + 1) ∈ t.changes

/-- No two pending fault records share a collapse key, and the first-pending index names a pending record (R145). -/
abbrev FaultFileSound (f : FaultFile) : Prop :=
  (∀ i j : Fin 8, i ≠ j → f.records[i.val].isSome = true →
    f.records[i.val].map FaultRecord.key ≠ f.records[j.val].map FaultRecord.key) ∧
  ∀ i : Fin 8, f.firstPending = some i → f.records[i.val].isSome = true

/-- The target of an operation lies in the store, a program's within one page (R123, R128, R129). -/
def StoreOp.inStore : StoreOp → Bool
  | .program a bs =>
    a < Config.storeBytes && 1 ≤ bs.length && a % Config.pageBytes + bs.length ≤ Config.pageBytes
  | .erase k => k < 8

/-- An operation is a program. -/
def StoreOp.isProgram : StoreOp → Bool
  | .program _ _ => true
  | .erase _ => false

/-- The suspend phase agrees with the operations and the holdoff (R125, R131, R132, R134). -/
def TableStore.phaseAgrees (t : TableStore) : Bool :=
  match t.phase with
  | .noSuspension => t.suspended.isNone
  | .suspending _ => t.active.isSome && t.suspended.isNone && t.holdoff.isNone
  | .suspended _ => t.suspended.isSome && t.holdoff.isNone

/-- When two operations exist, the suspended one is an erase and the active one a program in a different sector (R125). -/
def TableStore.nestingAgrees (t : TableStore) : Bool :=
  match t.active, t.suspended with
  | some a, some x => a.op.isProgram && !x.op.isProgram && a.op.sector != x.op.sector
  | _, _ => true

/-- The Table Store is sound (R124 to R127, R134): canonical contents, operations in the store, WEL never set beside an active operation, and phase, nesting and holdoff in agreement. -/
abbrev StoreSound (t : TableStore) : Prop :=
  Memory.wf t.contents ∧
  t.active.all (·.op.inStore) = true ∧ t.suspended.all (·.op.inStore) = true ∧
  (t.wel = true → t.active = none) ∧ (t.active = none → t.holdoff = none) ∧
  t.phaseAgrees = true ∧ t.nestingAgrees = true

/-- A slot is VALID. -/
def CacheSlot.isValid : CacheSlot → Bool
  | .valid _ _ _ => true
  | _ => false

/-- A slot is STALE. -/
def CacheSlot.isStale : CacheSlot → Bool
  | .stale _ _ _ => true
  | _ => false

/-- The Route Cache is sound (R27, R33, R40): no two slots match one unit, the recency order holds each VALID slot once and no other, and a STALE slot has a reference. -/
abbrev CacheSound (c : RouteCache) : Prop :=
  (∀ i j : SlotNo, i ≠ j → ∀ u : Byte, c.slots[i.val].matchesUnit u = true → c.slots[j.val].matchesUnit u = false) ∧
  c.recency.Nodup ∧
  (∀ i : SlotNo, i ∈ c.recency ↔ c.slots[i.val].isValid = true) ∧
  ∀ i : SlotNo, c.slots[i.val].isStale = true → 1 ≤ c.slots[i.val].refs

/-- The head of the queue is what the engine state says of it (R109, R112). -/
def InvalidationEngine.headAgrees (q : InvalidationEngine) : Bool :=
  match q.state, q.queue with
  | .idle, [] => true
  | .running, _ :: _ => true
  | .waitingFence, d :: _ => d.kind == kindFence
  | .error, d :: _ => d.malformed && q.errorRecord == some { seq := d.seq, kind := d.kind }
  | _, _ => false

/-- The Invalidation Queue Engine is sound (R106, R109): IDLE exactly on an empty queue, the head as the state says, and the sequences consecutive up to the next sequence. -/
abbrev EngineSound (q : InvalidationEngine) : Prop :=
  q.headAgrees = true ∧ numberDescriptors (q.nextSeq - byteOf q.queue.length) q.queue = q.queue

/-- A FENCE that waits finds the cache not drained (R117). -/
abbrev FenceWaits (s : State) : Prop := s.iqe.state = .waitingFence → s.rc.drained = false

/-! ## The holders of the tags (R1) -/

/-- The tag of a Management Queue entry. -/
def ManagementEntry.tag : ManagementEntry → Option Tag
  | .waiting t => some t
  | .executing t => t

/-- The waiters of a slot (R26). -/
def CacheSlot.waiters : CacheSlot → List Tag
  | .filling _ _ w => w
  | _ => []

/-- Each response of the Reply Queue belongs to a REPLYING record, one response to a tag (R20). -/
abbrev RepliesHeld (s : State) : Prop :=
  (s.tp.replies.map (·.tag)).Nodup ∧ ∀ r ∈ s.tp.replies, (s.tag r.tag).state = .replying

/-- Each tag of the held list belongs to a HELD record, once (R63). -/
abbrev HeldHeld (s : State) : Prop := s.pu.held.Nodup ∧ ∀ t ∈ s.pu.held, (s.tag t).state = .held

/-- Each waiter of a slot is a LOOKUP record of the slot's unit, once (R26, R30). -/
abbrev WaitersHeld (s : State) : Prop :=
  ∀ i : SlotNo, (s.slot i).waiters.Nodup ∧
    ∀ t ∈ (s.slot i).waiters, (s.tag t).state = .lookup ∧ (s.tag t).unit = (s.slot i).unit

/-- Each tag of the Management Queue belongs to a MGMT record, once (R164). -/
abbrev ManagementHeld (s : State) : Prop :=
  (s.mu.queue.filterMap ManagementEntry.tag).Nodup ∧
  ∀ t ∈ s.mu.queue.filterMap ManagementEntry.tag, (s.tag t).state = .mgmt

/-- A tag is where a port's entry or exchange of this kind says (R71, R73): QUEUED or ACTIVE at this branch for a unit, BCAST with a pending member for a member. -/
def heldAtPort (s : State) (b : Branch) (kind : EntryKind) (active : Bool) (t : Tag) : Bool :=
  match kind with
  | .unit =>
    (s.tag t).state == (if active then TagState.active else TagState.queued) &&
    (s.tag t).facts.map (·.branch) == some b
  | .member => (s.tag t).state == .bcast && (s.tag t).members[b.val] == some .pending

/-- Each entry of a Branch Queue and each exchange that is no orphan holds its tag, once per port (R71, R73). -/
abbrev PortsHeld (s : State) : Prop :=
  ∀ b : Branch,
    ((s.port b).queue.map (·.tag)).Nodup ∧
    (∀ e ∈ (s.port b).queue, heldAtPort s b e.kind false e.tag = true) ∧
    ∀ x ∈ (s.port b).exchange.current, x.orphan = false →
      ∃ t, x.tag = some t ∧ heldAtPort s b x.kind true t = true ∧ t ∉ (s.port b).queue.map (·.tag)

/-- Every place of the bridge that holds a tag holds it in the state that place stands for, at most once (R1, R20, R26, R63, R71, R164). -/
abbrev TagsHeld (s : State) : Prop :=
  RepliesHeld s ∧ HeldHeld s ∧ WaitersHeld s ∧ ManagementHeld s ∧ PortsHeld s

/-! ## The references of the slots (R40) -/

/-- Each ACTIVE record has its exchange, and an exchange that is no orphan names the slot of its record; a member names none (R40, R73). -/
abbrev ExchangesNameSlots (s : State) : Prop :=
  (∀ t : Tag, (s.tag t).state = .active →
    ∃ b : Branch, ∃ x ∈ (s.port b).exchange.current, x.orphan = false ∧ x.kind = .unit ∧ x.tag = some t) ∧
  ∀ b : Branch, ∀ x ∈ (s.port b).exchange.current, x.orphan = false →
    match x.kind, x.tag with
    | .unit, some t => x.slot = (s.tag t).slot
    | _, _ => x.slot = none

/-- A record that holds a reference to a slot (R40): QUEUED or ACTIVE, naming it. -/
def TagRecord.names (r : TagRecord) (i : SlotNo) : Bool :=
  (r.state == .queued || r.state == .active) && r.slot == some i

/-- An orphan holds a reference to a slot (R40, R89). -/
def BranchPort.orphanNames (p : BranchPort) (i : SlotNo) : Bool :=
  p.exchange.current.any fun x => x.orphan && x.slot == some i

/-- The references of each slot are the QUEUED and ACTIVE transactions and the orphans that name it (R40). -/
abbrev ReferencesCounted (s : State) : Prop :=
  ∀ i : SlotNo,
    (s.slot i).refs =
      ((List.finRange 16).filter fun t => (s.tag t).names i).length +
        ((List.finRange 4).filter fun b => (s.port b).orphanNames i).length

/-- The references of the Route Cache are held (R40): each is counted once, and the exchanges name the slots of their records. -/
abbrev ReferencesHeld (s : State) : Prop := ExchangesNameSlots s ∧ ReferencesCounted s

/-- The Trunk Port is sound (R159, R162): the break timer runs only in break, an IN-BREAK receiver stands in a detected break, and a cut frame waits for the end of a break not yet detected, while the receiver is RECEIVING. A receiver that is not RECEIVING has been so for no time. -/
abbrev TrunkSound (t : TrunkPort) : Prop :=
  (t.breakTimer.isSome = true → t.lineInBreak = true) ∧
  (t.receiver = .inBreak → t.lineInBreak = true ∧ t.breakTimer = none) ∧
  (t.reception.isSome = true → t.receiver = .receiving ∧ t.breakTimer.isSome = true) ∧
  (t.receiver ≠ .receiving → t.openFor = 0)

/-! ## What the claims say of a command -/

/-- The request under a tag stands at the head of the Management Queue with this command code and these parameters, and may begin (R165). -/
abbrev Ready (s : State) (t : Tag) (code : Byte) (params : List Byte) : Prop :=
  s.powered = true ∧ s.mu.halted = none ∧ s.mu.queue.head? = some (.waiting t) ∧
  (s.tag t).unit = 0 ∧ (s.tag t).channel = code ∧ (s.tag t).payload = params

/-- The state after a management request has been answered and nothing else has changed (R7, R20, R165): the reply stands at the tail of the Reply Queue with outcome DONE, the request's tag and unit, status-present clear, and the result code before the data; the record is REPLYING; the entry has left the head of the queue. -/
def answered (t : Tag) (result : ResultCode) (data : List Byte) (s : State) : State :=
  { s with
    tp :=
      { s.tp with
        replies :=
          s.tp.replies ++
            [{ tag := t, unit := (s.tag t).unit, outcome := .done, status := none, payload := result.code :: data }] }
    dsp :=
      { s.dsp with
        tags :=
          s.dsp.tags.set t.val
            { s.tag t with state := .replying, outcome := some .done, members := Vector.replicate 4 none } }
    mu := { s.mu with queue := s.mu.queue.tail } }

/-- The target value of the byte at an address under an operation, for the byte's old value; nothing outside the target (R124). -/
def StoreOp.targetByte (o : StoreOp) (a : Nat) (old : Byte) : Option Byte :=
  match o with
  | .program base bytes => if base ≤ a ∧ a < base + bytes.length then some (old &&& bytes.getD (a - base) 0) else none
  | .erase k => if a / Config.sectorBytes = k then some Config.erasedValue else none

/-- A sound state: what the rules state as holding at all times. -/
abbrev Sound (s : State) : Prop :=
  WithinCapacity s ∧ ChangeListAgrees s.ust ∧ FaultFileSound s.frf ∧ StoreSound s.ts ∧ CacheSound s.rc ∧
  EngineSound s.iqe ∧ FenceWaits s ∧ TagsHeld s ∧ ReferencesHeld s ∧ TrunkSound s.tp

end Sys2Proof.Machine
end

