-- ==== Sys2Proof/Certificates/Slice0/Obligations.lean ====
section
/-!
DEFINITION. The statements for the provers. Every `Obligations.<Name>` is a proposition about `exec`, `step` or a shared operation they call. Each says what it states, with the rule it follows; nothing is proved here.
-/

section Statements
open Sys2Proof Sys2Proof.Machine

/-! ## The queue and the passing of time -/

/-- A step takes the command at the front of the queue and answers what the command does with the queue's rest. -/
def Obligations.FrontCommandRuns : Prop :=
  ∀ (c : Instr) (cs : List Instr) (s : State), step (s.withPending (c :: cs)) = exec c (s.withPending cs)

/-- On an empty queue the step is the model's own tick (DESIGN CHOICE, log 4): with power, one microsecond passes on every running clock and nothing else changes. -/
def Obligations.EmptyQueueLetsTimePass : Prop :=
  ∀ s : State, s.pending = [] →
    step s = .next
      (if s.powered = true then
        { s with
          tp :=
            { s.tp with
              breakTimer := s.tp.breakTimer.map fun n => min (n + 1) 200
              openFor := if s.tp.receiver = .receiving then s.tp.openFor + 1 else s.tp.openFor }
          ports := Vector.ofFn fun b : Branch =>
            { s.port b with
              responseTimer := (s.port b).responseTimer.map (· - 1)
              watchdog := (s.port b).watchdog.map (· - 1) }
          ts :=
            { s.ts with
              active := s.ts.active.map fun o =>
                { o with ran := min (o.ran + 1) (if o.op.isProgram = true then 2500 else 150000) }
              holdoff := s.ts.holdoff.map (· - 1) }
          pm := { s.pm with interval := s.pm.interval - 1 } }
      else s)

/-! ## Management commands: reports -/

/-- IDENTIFY (R168); with it the codes that the other statements name: the outcomes and the ops as the tables of R177 list them, the results and the fault kinds as those of R180 do. -/
def Obligations.IdentifyAnswers : Prop :=
  (∀ (s : State) (t : Tag) (params : List Byte), Ready s t 0 params →
    exec .identify s = .next
      (if params = [] then
        answered t .accepted [0x49, 0x57, 0x04, 0x16, 0x01, 16, 32, 4, 4, 8, 16, 4, 16, 32, 8] s
      else answered t .badParameter [] s)) ∧
  (∀ o : OutcomeCode, o.code =
    match o with
    | .done => 0x00 | .doneLocal => 0x01 | .refusedIllegal => 0x02 | .refusedBusy => 0x03 | .badRequest => 0x04
    | .noRoute => 0x05 | .storeBusy => 0x06 | .portDown => 0x07 | .unitTimeout => 0x08 | .unitError => 0x09
    | .unitReject => 0x0A | .unitBusy => 0x0B | .cancelled => 0x0C | .broadcastPartial => 0x0D) ∧
  (∀ r : ResultCode, r.code =
    match r with
    | .accepted => 0x00 | .unknownCommand => 0x01 | .badParameter => 0x02 | .busy => 0x03 | .notEnabled => 0x04
    | .isProtected => 0x05 | .queueFull => 0x06 | .wrongState => 0x07 | .notCancellable => 0x08) ∧
  (∀ k : FaultKind, k.code =
    match k with
    | .frameCheck => 0x01 | .tagReuse => 0x02 | .badRequest => 0x03 | .noRoute => 0x04 | .routeMalformed => 0x05
    | .policyIllegal => 0x06 | .unitTimeout => 0x07 | .unitError => 0x08 | .portShut => 0x09 | .iqError => 0x0A
    | .configInvalid => 0x0B) ∧
  (∀ op : ReqOp, op.code = match op with | .read => 0x01 | .write => 0x02 | .exchange => 0x03 | .queryLast => 0x04) ∧
  ∀ (b : Byte) (op : ReqOp), ReqOp.ofCode b = some op ↔ b = op.code

/-- READ-CONFIG (R169): the data has 22 bytes, in the positions of the configuration record (R180). The code of its last byte, modified, 01h set and 00h clear, is the model's choice (log 26). -/
def Obligations.ReadConfigAnswers : Prop :=
  ∀ (s : State) (t : Tag) (params : List Byte), Ready s t 1 params →
    if params = [] then
      ∃ data : List Byte, exec .readConfig s = .next (answered t .accepted data s) ∧ data.length = 22 ∧
        (∀ b : Branch,
          bitOf b.val (byteAt data 0) = s.config.enabled[b.val] ∧
          bitOf b.val (byteAt data 1) = s.config.broadcast[b.val] ∧
          byteAt data (2 + b.val) = byteOf s.config.retryLimit[b.val].val ∧
          byteAt data (6 + b.val) = byteOf s.config.echoLimit[b.val].val ∧
          byteAt data (10 + b.val) = s.config.timeout[b.val]) ∧
        byteAt data 14 = byteOf s.config.broadcastClass.val ∧
        bitOf 0 (byteAt data 15) = s.config.autoSuspend ∧ bitOf 1 (byteAt data 15) = s.config.autoSnapshot ∧
        byteAt data 16 = s.es.mask ∧
        (match s.config.protection with
          | none => byteAt data 17 = 0 ∧ byteAt data 18 = 0 ∧ byteAt data 19 = 0
          | some (first, last) =>
            byteAt data 17 = 1 ∧ byteAt data 18 = byteOf first.val ∧ byteAt data 19 = byteOf last.val) ∧
        byteAt data 20 = (match s.sul.config.source with | .record => 0 | .defaults => 1) ∧
        byteAt data 21 = (if s.sul.config.modified = true then 1 else 0)
    else exec .readConfig s = .next (answered t .badParameter [] s)

/-- FAULT-READ (R148, R180): the overflow flag, the first-pending index, the pending set, then five bytes for each pending record in ascending order. The code of the overflow byte, 01h set and 00h clear, is the model's choice (log 26), and so are the zero bits 3 to 0 of an absent tag (log 28). -/
def Obligations.FaultReadAnswers : Prop :=
  ∀ (s : State) (t : Tag) (params : List Byte), Ready s t 5 params →
    if params = [] then
      ∃ pending : Byte,
        (∀ n : Fin 8, bitOf n.val pending = s.frf.records[n.val].isSome) ∧
        exec .faultRead s = .next
          (answered t .accepted
            ([if s.frf.overflow = true then 1 else 0,
              (match s.frf.firstPending with | some n => byteOf n.val | none => 0xFF), pending] ++
              (List.finRange 8).flatMap fun n =>
                match s.frf.records[n.val] with
                | none => []
                | some r =>
                  [r.kind.code, r.unit.getD 0,
                    byteOf ((match r.branch with | some b => 32 * b.val | none => 224) +
                      (match r.tag with | some t => 16 + t.val | none => 0)),
                    r.detail, r.repeats])
            s)
    else exec .faultRead s = .next (answered t .badParameter [] s)

/-- UNIT-STATUS-READ (R100). -/
def Obligations.UnitStatusReadAnswers : Prop :=
  ∀ (s : State) (t : Tag) (params : List Byte), Ready s t 8 params →
    (∀ i : Fin 239, params = [byteOf (i.val + 1)] →
      exec .unitStatusRead s = .next
        (answered t .accepted
          [byteOf (i.val + 1),
            (match s.ust.units[i.val].lastOutcome with | some o => o.code | none => 0xFF),
            byteOf ((if s.ust.units[i.val].status.isSome = true then 1 else 0) +
              (if s.ust.units[i.val].changed = true then 2 else 0)),
            s.ust.units[i.val].status.getD 0]
          s)) ∧
    ((∀ i : Fin 239, params ≠ [byteOf (i.val + 1)]) →
      exec .unitStatusRead s = .next (answered t .badParameter [] s))

/-- COUNTERS-READ (R152): group, snapshot number, saturation flags and values of the group in the order of R150, all from the Snapshot Bank. -/
def Obligations.CountersReadAnswers : Prop :=
  ∀ (s : State) (t : Tag) (params : List Byte), Ready s t 9 params →
    (∀ g : Fin 6, params = [byteOf g.val] →
      ∃ flags : Byte,
        let first := if g.val < 4 then 7 * g.val else if g.val = 4 then 28 else 33
        let n := if g.val < 4 then 7 else 5
        (∀ i : Fin 7, i.val < n → bitOf i.val flags = s.pm.bank.saturated.toList.getD (first + i.val) false) ∧
        exec .countersRead s = .next
          (answered t .accepted
            ([byteOf g.val, s.pm.bank.number, flags] ++
              (List.range n).flatMap fun i =>
                let v := s.pm.bank.values.toList.getD (first + i) 0
                [byteOf (v.toNat / 256), byteOf v.toNat])
            s)) ∧
    ((∀ g : Fin 6, params ≠ [byteOf g.val]) →
      exec .countersRead s = .next (answered t .badParameter [] s))

/-- IQ-STATUS (R120, R180). IQ-RECOVER (R119): in ERROR the head is removed without being performed; in every other state the command is refused. -/
def Obligations.TheEngineReportsAndRecovers : Prop :=
  (∀ (s : State) (t : Tag) (params : List Byte), Ready s t 14 params →
     exec .iqStatus s = .next
       (if params = [] then
         answered t .accepted
           [(match s.iqe.state with | .idle => 0 | .running => 1 | .waitingFence => 2 | .error => 3),
             byteOf s.iqe.queue.length,
             (match s.iqe.queue with | d :: _ => d.seq | [] => 0),
             s.iqe.nextSeq,
             byteOf ((if s.iqe.lastCompletion.isSome = true then 1 else 0) +
               (if s.iqe.errorRecord.isSome = true then 2 else 0)),
             (match s.iqe.lastCompletion with | some r => r.seq | none => 0),
             (match s.iqe.lastCompletion with | some r => r.requested | none => 0),
             (match s.iqe.lastCompletion with | some r => r.performed | none => 0),
             (match s.iqe.errorRecord with | some r => r.seq | none => 0),
             (match s.iqe.errorRecord with | some r => r.kind | none => 0)]
           s
       else answered t .badParameter [] s)) ∧
  ∀ (s : State) (t : Tag) (params : List Byte), Ready s t 15 params →
    exec .iqRecover s = .next
      (if params ≠ [] then answered t .badParameter [] s
      else if s.iqe.state = .error then
        answered t .accepted []
          { s with
            iqe :=
              { s.iqe with
                queue := s.iqe.queue.tail
                state := if s.iqe.queue.tail = [] then .idle else .running } }
      else answered t .wrongState [] s)

/-- STORE-STATUS (R142, R180): each operation as its kind, its sector and, for a program, its page. The zero bytes for the first and last sector of protection NONE are the model's choice (log 27). -/
def Obligations.StoreStatusAnswers : Prop :=
  ∀ (s : State) (t : Tag) (params : List Byte), Ready s t 23 params →
    let operation : Option Operation → List Byte := fun o =>
      match o with
      | none => [0, 0, 0]
      | some ⟨.program a _, _⟩ => [1, byteOf (a / 1024), byteOf (a % 1024 / 32)]
      | some ⟨.erase k, _⟩ => [2, byteOf k, 0]
    exec .storeStatus s = .next
      (if params = [] then
        answered t .accepted
          (operation s.ts.active ++ operation s.ts.suspended ++
            [(match s.ts.phase with | .noSuspension => 0 | .suspending _ => 1 | .suspended _ => 2),
              (match s.ts.phase with
                | .noSuspension => 0
                | .suspending .management => 1
                | .suspended .management => 1
                | .suspending .auto => 2
                | .suspended .auto => 2),
              byteOf ((if s.ts.active.isSome = true ∧ s.ts.suspended.isSome = true then 1 else 0) +
                (if s.ts.wel = true then 2 else 0) + (if s.ts.holdoff.isSome = true then 4 else 0) +
                (if s.ts.lock = true then 8 else 0) + (if s.ts.reading.isSome = true then 16 else 0))] ++
            (match s.ts.protection with | none => [0, 0, 0] | some (f, l) => [1, byteOf f.val, byteOf l.val]) ++
            [byteOf s.ts.fills.length])
          s
      else answered t .badParameter [] s)

/-- CACHE-READ (R46): the reports of the slots from the first upwards, three bytes each. -/
def Obligations.CacheReadAnswers : Prop :=
  ∀ (s : State) (t : Tag) (params : List Byte), Ready s t 26 params →
    (∀ first n : Nat, 1 ≤ n → n ≤ 15 → first + n ≤ 32 → params = [byteOf first, byteOf n] →
      exec .cacheRead s = .next
        (answered t .accepted
          ((List.range n).flatMap fun k =>
            match s.rc.slots.toList.getD (first + k) .empty with
            | .empty => [0x00, 0, 0]
            | .filling u mark _ => [if mark = true then 0x81 else 0x01, u, 0]
            | .valid u _ refs => [0x02, u, byteOf refs]
            | .stale u _ refs => [0x03, u, byteOf refs])
          s)) ∧
    ((∀ first n : Nat, 1 ≤ n → n ≤ 15 → first + n ≤ 32 → params ≠ [byteOf first, byteOf n]) →
      exec .cacheRead s = .next (answered t .badParameter [] s))

/-- PORT-CONTROL REPORT (R68): the twelve bytes of the report, the queue tags head first, unused places zero. Every reply that carries the report of a port carries these bytes. -/
def Obligations.PortControlReportAnswers : Prop :=
  (∀ p : BranchPort,
    let x := p.exchange.current
    let tags := p.queue.map fun e => byteOf e.tag.val
    portReport p =
      [(match p.state with | .disabled => 0 | .enabled => 1 | .draining => 2 | .shutDown => 3),
        (match p.exchange with | .idle => 0 | .sending _ => 1 | .waiting _ => 2),
        (match x with
          | none => 0
          | some x => byteOf ((match x.kind with | .unit => 1 | .member => 2) + (if x.orphan = true then 128 else 0))),
        (match x with | some x => (match x.tag with | some t => byteOf t.val | none => 0) | none => 0),
        (match x with | some x => byteOf x.attempt | none => 0),
        byteOf p.queue.length, tags.getD 0 0, tags.getD 1 0, tags.getD 2 0, tags.getD 3 0,
        byteOf p.echoFaults, byteOf p.nextSeq.toNat]) ∧
  ∀ (s : State) (t : Tag) (b : Branch), Ready s t 11 [byteOf b.val, 3] →
    exec .portControlReport s = .next (answered t .accepted (portReport (s.port b)) s)

/-- ACTIVATE-POLICY(REPORT) (R64, R180). The code of the store-blocked byte, 01h set and 00h clear, is the model's choice (log 26). -/
def Obligations.ActivatePolicyReportAnswers : Prop :=
  ∀ (s : State) (t : Tag), Ready s t 25 [2] →
    exec .activatePolicyReport s = .next
      (answered t .accepted
        [(match s.pu.activation with | .idle => 0 | .running _ _ => 1),
          (match s.pu.activation with | .idle => 0 | .running k _ => byteOf k.val),
          (match s.pu.activation with
            | .idle => 0
            | .running _ _ =>
              if s.ts.reading.map (·.reader) ≠ some .chunk ∧
                  (s.ts.active ≠ none ∨ s.ts.phase = .suspended .auto ∨ s.ts.phase = .suspending .auto) then 1
              else 0),
          byteOf s.pu.held.length, s.pu.generation, byteOf (s.pu.undecodable / 256), byteOf s.pu.undecodable]
        s)

/-- A PORT-CONTROL or ACTIVATE-POLICY whose parameters are not allowed is refused BAD-PARAMETER and changes nothing, by whichever of its rows executes it (R68, R64; the rows: log 10). A code from 28 to 63 names no command (R166): the reply carries UNKNOWN-COMMAND alone, whatever the parameters. -/
def Obligations.RefusedRequestsAreAnswered : Prop :=
  ∀ (s : State) (t : Tag) (params : List Byte),
    (Ready s t 11 params → (∀ (b : Branch) (a : Byte), (a = 1 ∨ a = 2 ∨ a = 3) → params ≠ [byteOf b.val, a]) →
      exec .portControlEnable s = .next (answered t .badParameter [] s) ∧
      exec .portControlDisable s = .next (answered t .badParameter [] s) ∧
      exec .portControlReport s = .next (answered t .badParameter [] s)) ∧
    (Ready s t 25 params → params ≠ [1] → params ≠ [2] →
      exec .activatePolicyStart s = .next (answered t .badParameter [] s) ∧
      exec .activatePolicyReport s = .next (answered t .badParameter [] s)) ∧
    ∀ code : Byte, 28 ≤ code.toNat → Ready s t code params →
      exec .unknownCommand s = .next (answered t .unknownCommand [] s)

/-! ## Management commands: configuration, events, faults, changes, counters -/

/-- SET-CONFIG (R170): judged whole by the count and by the range of each pair, then applied in order. -/
def Obligations.SetConfigWrites : Prop :=
  let admitted : Byte × Byte → Prop := fun p =>
    (0x10 ≤ p.1.toNat ∧ p.1.toNat ≤ 0x13 ∧ p.2.toNat ≤ 3) ∨
    (0x14 ≤ p.1.toNat ∧ p.1.toNat ≤ 0x17 ∧ 1 ≤ p.2.toNat ∧ p.2.toNat ≤ 15) ∨
    (0x18 ≤ p.1.toNat ∧ p.1.toNat ≤ 0x1B ∧ p.2.toNat ≤ 1) ∨
    (0x1C ≤ p.1.toNat ∧ p.1.toNat ≤ 0x1F ∧ 1 ≤ p.2.toNat) ∨
    (p.1.toNat = 0x20 ∧ p.2.toNat ≤ 15) ∨ (p.1.toNat = 0x21 ∧ p.2.toNat ≤ 1) ∨ (p.1.toNat = 0x22 ∧ p.2.toNat ≤ 1)
  let write : ConfigValues → Byte × Byte → ConfigValues := fun c p =>
    let n := p.1.toNat
    if n < 0x14 then { c with retryLimit := c.retryLimit.setIfInBounds (n - 0x10) (Fin.ofNat 4 p.2.toNat) }
    else if n < 0x18 then { c with echoLimit := c.echoLimit.setIfInBounds (n - 0x14) (Fin.ofNat 16 p.2.toNat) }
    else if n < 0x1C then { c with broadcast := c.broadcast.setIfInBounds (n - 0x18) (p.2 == 1) }
    else if n < 0x20 then { c with timeout := c.timeout.setIfInBounds (n - 0x1C) p.2 }
    else if n = 0x20 then { c with broadcastClass := Fin.ofNat 16 p.2.toNat }
    else if n = 0x21 then { c with autoSuspend := p.2 == 1 }
    else { c with autoSnapshot := p.2 == 1 }
  ∀ (s : State) (t : Tag) (params : List Byte), Ready s t 2 params →
    (params.length % 2 = 1 ∨ params.length = 0 ∨ 38 < params.length →
      exec .setConfig s = .next (answered t .badParameter [] s)) ∧
    ∀ pairs : List (Byte × Byte), 1 ≤ pairs.length → pairs.length ≤ 19 →
      params = pairs.flatMap (fun p => [p.1, p.2]) →
      ((∃ p ∈ pairs, ¬ admitted p) → exec .setConfig s = .next (answered t .badParameter [] s)) ∧
      ((∀ p ∈ pairs, admitted p) →
        exec .setConfig s = .next
          (answered t .accepted [byteOf pairs.length]
            { s with
              sul :=
                { s.sul with
                  config := { s.sul.config with values := pairs.foldl write s.sul.config.values, modified := true } } }))

/-- EVENTS (R154): the presences are noted, the four latches cleared, and the reply carries the presences and the mask (bits in the order of R179). SET-EVENT-MASK (R153) writes the mask and answers with it. -/
def Obligations.EventsAndTheMask : Prop :=
  (∀ (s : State) (t : Tag) (params : List Byte), Ready s t 3 params →
    if params = [] then
      ∃ p : Byte,
        (bitOf 0 p = true ↔ ∃ n : Fin 8, s.frf.records[n.val].isSome = true) ∧
        bitOf 1 p = s.frf.overflow ∧
        (bitOf 2 p = true ↔ s.ust.changes ≠ [] ∨ s.ust.overflow = true) ∧
        (bitOf 3 p = true ↔ s.iqe.state = .error) ∧
        bitOf 4 p = s.es.fenceNotify ∧ bitOf 5 p = s.es.storeDone ∧ bitOf 6 p = s.es.portShut ∧
        bitOf 7 p = s.es.counterSaturated ∧
        exec .events s = .next
          (answered t .accepted [p, s.es.mask]
            { s with
              es :=
                { s.es with fenceNotify := false, storeDone := false, portShut := false, counterSaturated := false } })
    else exec .events s = .next (answered t .badParameter [] s)) ∧
  ∀ (s : State) (t : Tag) (params : List Byte), Ready s t 4 params →
    exec .setEventMask s = .next
      (match params with
        | [m] => answered t .accepted [m] { s with es := { s.es with mask := m } }
        | _ => answered t .badParameter [] s)

/-- FAULT-CLEAR (R149): one record, or ALL (FFh). The code of the overflow byte of the reply, 01h set and 00h clear, is the model's choice (log 26). -/
def Obligations.FaultClearFrees : Prop :=
  ∀ (s : State) (t : Tag) (params : List Byte), Ready s t 6 params →
    (∀ n : Fin 8, params = [byteOf n.val] →
      exec .faultClear s = .next
        (answered t .accepted
          [byteOf (((List.finRange 8).filter fun i => i ≠ n && s.frf.records[i.val].isSome).length),
            if s.frf.overflow = true then 1 else 0]
          { s with
            frf :=
              { s.frf with
                records := s.frf.records.set n.val none
                firstPending :=
                  if s.frf.records[n.val].isSome = true ∧ s.frf.firstPending = some n then none
                  else s.frf.firstPending } })) ∧
    (params = [0xFF] →
      exec .faultClear s = .next
        (answered t .accepted [0, 0]
          { s with frf := { records := Vector.replicate 8 none, overflow := false, firstPending := none } })) ∧
    ((∀ n : Fin 8, params ≠ [byteOf n.val]) → params ≠ [0xFF] →
      exec .faultClear s = .next (answered t .badParameter [] s))

/-- CHANGES-READ (R99): up to 16 units leave the head of the list with their flags cleared; the overflow flag is reported as it stood, and cleared when the list is left empty. The code of its byte, 01h set and 00h clear, is the model's choice (log 26). -/
def Obligations.ChangesReadTakes : Prop :=
  ∀ (s : State) (t : Tag) (params : List Byte), Ready s t 7 params →
    if params = [] then
      ∃ units : Vector UnitRecord 239,
        (∀ i : Fin 239, units[i.val] =
          if byteOf (i.val + 1) ∈ s.ust.changes.take 16 then { s.ust.units[i.val] with changed := false }
          else s.ust.units[i.val]) ∧
        exec .changesRead s = .next
          (answered t .accepted
            ([if s.ust.overflow = true then 1 else 0, byteOf (s.ust.changes.take 16).length,
              byteOf (s.ust.changes.drop 16).length] ++ s.ust.changes.take 16)
            { s with
              ust :=
                { units := units
                  changes := s.ust.changes.drop 16
                  overflow := if s.ust.changes.drop 16 = [] then false else s.ust.overflow } })
    else exec .changesRead s = .next (answered t .badParameter [] s)

/-- A snapshot, by SNAPSHOT and, when auto-snapshot is set, by the expiry of an interval timer that has run out (R151). -/
def Obligations.SnapshotsCopyTheCounters : Prop :=
  let snapshot : PerformanceMonitor → PerformanceMonitor := fun m =>
    { live := Vector.replicate 38 0
      saturated := Vector.replicate 38 false
      bank := { values := m.live, saturated := m.saturated, number := m.bank.number + 1 }
      interval := m.interval }
  (∀ (s : State) (t : Tag) (params : List Byte), Ready s t 10 params →
    exec .snapshot s = .next
      (if params = [] then answered t .accepted [s.pm.bank.number + 1] { s with pm := snapshot s.pm }
      else answered t .badParameter [] s)) ∧
  ∀ s : State, s.powered = true → s.pm.interval = 0 →
    exec .intervalTimerExpiry s = .next
      { s with
        pm :=
          if s.config.autoSnapshot = true then { snapshot s.pm with interval := 1000000 }
          else { s.pm with interval := 1000000 } }

/-! ## Management commands: ports and transactions -/

/-- PORT-CONTROL ENABLE (R69); the report in the reply is that of R68, whose bytes `PortControlReportAnswers` gives. -/
def Obligations.PortControlEnables : Prop :=
  ∀ (s : State) (t : Tag) (b : Branch), Ready s t 11 [byteOf b.val, 1] →
    let p := s.port b
    let p' := if p.state = .disabled ∨ p.state = .shutDown then { p with state := .enabled, echoFaults := 0 } else p
    exec .portControlEnable s = .next
      (if p.state = .draining then answered t .wrongState [] s
      else answered t .accepted (portReport p') { s with ports := s.ports.set b.val p' })

/-- PORT-CONTROL DISABLE (R70): the entries leave head first and are reported, and the reply follows their responses; the report in it is that of R68 (`PortControlReportAnswers`). -/
def Obligations.PortControlDisables : Prop :=
  ∀ (s : State) (t : Tag) (b : Branch), Ready s t 11 [byteOf b.val, 2] →
    let p := s.port b
    let emptied : BranchPort :=
      { p with
        queue := []
        state := if p.exchange = .idle then .disabled else .draining
        exchange :=
          match p.exchange with
          | .idle => .idle
          | .sending x => .sending { x with last := true }
          | .waiting x => .waiting { x with last := true } }
    let left : State :=
      match p.state with
      | .enabled =>
        p.queue.foldl
          (fun u e =>
            match e.kind with
            | .unit => endUnit e.tag .portDown none u
            | .member => endMember e.tag b false u)
          { s with ports := s.ports.set b.val emptied }
      | .shutDown => { s with ports := s.ports.set b.val { p with state := .disabled } }
      | _ => s
    exec .portControlDisable s = .next (answered t .accepted (portReport (left.port b)) left)

/-- CANCEL (R18), by the state of the named record; the CANCELLED response precedes the command's reply. -/
def Obligations.CancelEnds : Prop :=
  ∀ (s : State) (t : Tag) (params : List Byte), Ready s t 12 params →
    (∀ u : Tag, params = [byteOf u.val] →
      let r := s.tag u
      exec .cancel s = .next
        (match r.state with
        | .lookup =>
          answered t .accepted []
            (endPlain u .cancelled
              { s with
                rc :=
                  { s.rc with
                    slots := Vector.ofFn fun i : SlotNo =>
                      match s.slot i with
                      | .filling v m w => .filling v m (w.filter (· ≠ u))
                      | c => c } })
        | .held =>
          answered t .accepted []
            (endPlain u .cancelled { s with pu := { s.pu with held := s.pu.held.filter (· ≠ u) } })
        | .queued =>
          let left : State :=
            match r.facts with
            | some f =>
              { s with
                ports :=
                  s.ports.set f.branch.val
                    { s.port f.branch with
                      queue := (s.port f.branch).queue.filter (· ≠ { tag := u, kind := .unit }) } }
            | none => s
          let named : State := { left with dsp := { s.dsp with tags := s.dsp.tags.set u.val { r with slot := none } } }
          answered t .accepted []
            (endPlain u .cancelled
              (match r.slot with
              | some i => releaseReference i named
              | none => named))
        | .active =>
          answered t .accepted []
            { s with dsp := { s.dsp with tags := s.dsp.tags.set u.val { r with cancelPending := true } } }
        | _ => answered t .notCancellable [] s)) ∧
    ((∀ u : Tag, params ≠ [byteOf u.val]) → exec .cancel s = .next (answered t .badParameter [] s))

/-! ## Management commands: the Invalidation Queue -/

/-- QUEUE-INVALIDATION (R106, R108): all the descriptors of the command join the tail with consecutive sequences, or none does. -/
def Obligations.InvalidationsAreQueued : Prop :=
  ∀ (s : State) (t : Tag) (params : List Byte), Ready s t 13 params →
    (params.length ≠ 4 → params.length ≠ 8 → params.length ≠ 12 → params.length ≠ 16 →
      exec .queueInvalidation s = .next (answered t .badParameter [] s)) ∧
    ∀ ds : List (Byte × Byte × Byte × Byte), 1 ≤ ds.length → ds.length ≤ 4 →
      params = ds.flatMap (fun d => [d.1, d.2.1, d.2.2.1, d.2.2.2]) →
      let free := 16 - s.iqe.queue.length
      exec .queueInvalidation s = .next
        (if free < ds.length then answered t .queueFull [byteOf free] s
        else
          answered t .accepted [s.iqe.nextSeq, byteOf ds.length, byteOf (free - ds.length)]
            { s with
              iqe :=
                { s.iqe with
                  queue :=
                    s.iqe.queue ++
                      ds.mapIdx fun i d =>
                        { kind := d.1, first := d.2.1, count := d.2.2.1, notify := bitOf 0 d.2.2.2
                          seq := s.iqe.nextSeq + byteOf i }
                  nextSeq := s.iqe.nextSeq + byteOf ds.length
                  state := if s.iqe.state = .idle then .running else s.iqe.state } })

/-! ## Management commands: the Table Store -/

/-- STORE-WRITE-ENABLE and STORE-WRITE-DISABLE (R127), and STORE-PROTECT (R130). -/
def Obligations.WriteEnableAndProtection : Prop :=
  ∀ (s : State) (t : Tag) (params : List Byte),
    (Ready s t 16 params →
      exec .storeWriteEnable s = .next
        (if params ≠ [] then answered t .badParameter [] s
        else if s.ts.active ≠ none then answered t .busy [] s
        else answered t .accepted [] { s with ts := { s.ts with wel := true } })) ∧
    (Ready s t 17 params →
      exec .storeWriteDisable s = .next
        (if params ≠ [] then answered t .badParameter [] s
        else answered t .accepted [] { s with ts := { s.ts with wel := false } })) ∧
    (Ready s t 24 params → params.length ≠ 4 → exec .storeProtect s = .next (answered t .badParameter [] s)) ∧
    ∀ kind first last lock : Byte, params = [kind, first, last, lock] → Ready s t 24 params →
      exec .storeProtect s = .next
        (if (kind = 0 ∨ (kind = 1 ∧ first.toNat ≤ last.toNat ∧ last.toNat ≤ 7)) ∧ (lock = 0 ∨ lock = 1) then
          if s.ts.lock = true then answered t .isProtected [] s
          else if s.ts.wel = false then answered t .notEnabled [] s
          else
            answered t .accepted []
              { s with
                ts :=
                  { s.ts with
                    protection := if kind = 0 then none else some (Fin.ofNat 8 first.toNat, Fin.ofNat 8 last.toNat)
                    lock := lock == 1
                    wel := false } }
        else answered t .badParameter [] s)

/-- STORE-PROGRAM (R128), by the first check of the table that decides. STORE-ERASE (R129). -/
def Obligations.ProgramsAndErasesAreJudged : Prop :=
  (∀ (s : State) (t : Tag) (params : List Byte), Ready s t 18 params →
     (params.length < 3 → exec .storeProgram s = .next (answered t .badParameter [] s)) ∧
     ∀ (hi lo : Byte) (bytes : List Byte), params = hi :: lo :: bytes → bytes ≠ [] →
       let address := 256 * hi.toNat + lo.toNat
       let sector := address / 1024
       exec .storeProgram s = .next
         (if 32 < bytes.length ∨ 8191 < address ∨ 32 < address % 32 + bytes.length then answered t .badParameter [] s
         else if s.ts.active ≠ none then answered t .busy [] s
         else if (match s.ts.suspended with
             | some ⟨.program _ _, _⟩ => true
             | some ⟨.erase k, _⟩ => k == sector
             | none => false) = true then answered t .wrongState [] s
         else if (sector = 4 ∨ sector = 5) ∧ s.pu.activation ≠ .idle then answered t .busy [] s
         else if s.ts.wel = false then answered t .notEnabled [] s
         else if (match s.ts.protection with
             | some (first, last) => decide (first.val ≤ sector ∧ sector ≤ last.val)
             | none => false) = true then
           answered t .isProtected [] { s with ts := { s.ts with wel := false } }
         else
           settle
             (answered t .accepted []
               (rejudgeFills
                 { s with ts := { s.ts with wel := false, active := some { op := .program address bytes, ran := 0 } } })))) ∧
  ∀ (s : State) (t : Tag) (params : List Byte), Ready s t 19 params →
    ((∀ k : Fin 8, params ≠ [byteOf k.val]) → exec .storeErase s = .next (answered t .badParameter [] s)) ∧
    ∀ k : Fin 8, params = [byteOf k.val] →
      exec .storeErase s = .next
        (if s.ts.active ≠ none then answered t .busy [] s
        else if s.ts.suspended ≠ none then answered t .wrongState [] s
        else if (k = 4 ∨ k = 5) ∧ s.pu.activation ≠ .idle then answered t .busy [] s
        else if s.ts.wel = false then answered t .notEnabled [] s
        else if (match s.ts.protection with
            | some (first, last) => decide (first ≤ k ∧ k ≤ last)
            | none => false) = true then
          answered t .isProtected [] { s with ts := { s.ts with wel := false } }
        else
          settle
            (answered t .accepted []
              (rejudgeFills { s with ts := { s.ts with wel := false, active := some { op := .erase k.val, ran := 0 } } })))

/-- STORE-SUSPEND (R131) and STORE-RESUME (R133), by the first condition that decides. That a STORE-RESUME beside a nested program is WRONG-STATE while the suspension's owner is AUTO is the model's choice between R133 and the table of R135 (log 25). -/
def Obligations.SuspendAndResume : Prop :=
  (∀ (s : State) (t : Tag) (params : List Byte), Ready s t 20 params →
    let accepted : SuspendPhase → State := fun p => answered t .accepted [] { s with ts := { s.ts with phase := p } }
    exec .storeSuspend s = .next
      (if params ≠ [] then answered t .badParameter [] s
      else if s.ts.active ≠ none ∧ s.ts.suspended ≠ none then answered t .wrongState [] s
      else if s.ts.phase = .suspending .auto then accepted (.suspending .management)
      else if s.ts.phase = .suspended .auto then accepted (.suspended .management)
      else if s.ts.phase = .suspending .management then answered t .wrongState [] s
      else if s.ts.active = none then answered t .wrongState [] s
      else if s.ts.holdoff ≠ none then answered t .busy [] s
      else accepted (.suspending .management))) ∧
  ∀ (s : State) (t : Tag) (params : List Byte), Ready s t 21 params →
    (params ≠ [] → exec .storeResume s = .next (answered t .badParameter [] s)) ∧
    (params = [] → s.ts.phase ≠ .suspended .management → exec .storeResume s = .next (answered t .wrongState [] s)) ∧
    (params = [] → s.ts.phase = .suspended .management → s.ts.active ≠ none →
      exec .storeResume s = .next (answered t .busy [] s)) ∧
    ∀ o : Operation, params = [] → s.ts.phase = .suspended .management → s.ts.active = none → s.ts.suspended = some o →
      exec .storeResume s = .next
        (settle
          (answered t .accepted []
            (rejudgeFills
              { s with
                ts :=
                  { s.ts with
                    active := some o, suspended := none, phase := .noSuspension, wel := false, holdoff := some 100 } })))

/-- STORE-READ (R141): judged, then waiting for the read port; the reply is built when the read completes, and discarded when a trunk break has left the command tagless (R167). -/
def Obligations.StoreReadServed : Prop :=
  (∀ (s : State) (t : Tag) (params : List Byte), Ready s t 22 params →
    (params.length ≠ 3 → exec .storeRead s = .next (answered t .badParameter [] s)) ∧
    ∀ hi lo n : Byte, params = [hi, lo, n] →
      let address := 256 * hi.toNat + lo.toNat
      exec .storeRead s = .next
        (if n.toNat = 0 ∨ 47 < n.toNat ∨ 8191 < address + n.toNat - 1 then answered t .badParameter [] s
        else if s.ts.active ≠ none then answered t .busy [] s
        else if (match s.ts.suspended with
            | some o => (List.range n.toNat).any fun i => (address + i) / 1024 == o.op.sector
            | none => false) = true then answered t .busy [] s
        else
          settle
            { s with
              ts := { s.ts with storeRead := some { address := address, count := n.toNat } }
              mu := { s.mu with queue := .executing (some t) :: s.mu.queue.tail } })) ∧
  ∀ (s : State) (bytes : List Byte), s.powered = true →
    let freed : State := { s with ts := { s.ts with reading := none } }
    (∀ t : Tag, s.ts.reading = some { reader := .storeRead, bytes := bytes } →
      s.mu.queue.head? = some (.executing (some t)) → (s.tag t).unit = 0 →
      exec .storeReadCompletion s = .next (settle (answered t .accepted bytes freed))) ∧
    (s.ts.reading = some { reader := .storeRead, bytes := bytes } → s.mu.queue.head? = some (.executing none) →
      exec .storeReadCompletion s = .next (settle { freed with mu := { s.mu with queue := s.mu.queue.tail } })) ∧
    (s.ts.reading = some { reader := .droppedStoreRead, bytes := bytes } →
      exec .storeReadCompletion s = .next (settle freed))

/-! ## Management commands: activation and reset -/

/-- ACTIVATE-POLICY(START) (R58). -/
def Obligations.ActivationStarts : Prop :=
  ∀ (s : State) (t : Tag), Ready s t 25 [1] →
    let inPolicy : Option Operation → Bool := fun o =>
      match o with
      | some ⟨.program a _, _⟩ => a / 1024 == 4 || a / 1024 == 5
      | some ⟨.erase k, _⟩ => k == 4 || k == 5
      | none => false
    exec .activatePolicyStart s = .next
      (if s.pu.activation ≠ .idle ∨ inPolicy s.ts.active = true ∨ inPolicy s.ts.suspended = true then
        answered t .busy [s.pu.generation] s
      else
        settle (answered t .accepted [s.pu.generation] { s with pu := { s.pu with activation := .running 0 0 } }))

/-- RESET-BRIDGE halts the Management Unit (R171). The end of a transmission frees the response's record (R161), and the soft reset follows in that event when the response is the reply to RESET-BRIDGE (R3, R144, R163, R173). The model's choices in it: a record that becomes FREE is blank (log 9), a read in progress takes a dropped form (log 19), and refusals not yet reported leave with the fills (log 12). -/
def Obligations.ResetFollowsItsReply : Prop :=
  (∀ (s : State) (t : Tag) (params : List Byte), Ready s t 27 params →
    exec .resetBridge s = .next
      (if params = [] then answered t .accepted [] { s with mu := { s.mu with halted := some t } }
      else answered t .badParameter [] s)) ∧
  ∀ (s : State) (sent : List Byte) (r : Response) (rest : List Response), s.powered = true →
    s.tp.transmitter = some sent → s.tp.replies = r :: rest →
    exec .transmissionEnd s = .next
      (if s.mu.halted = some r.tag then
        settle
          { s with
            tp :=
              { s.tp with
                receiver := .silent, openFor := 0, reception := none, intake := [], replies := [], transmitter := none }
            dsp := Dispatcher.reset
            rc := RouteCache.reset
            pu := { s.pu with activation := .idle, held := [] }
            ports := Vector.replicate 4 BranchPort.reset
            ust := UnitStatusTable.reset
            iqe := InvalidationEngine.reset
            ts :=
              { s.ts with
                wel := false
                reading := s.ts.reading.map fun q =>
                  { q with
                    reader :=
                      match q.reader with
                      | .fill _ => .droppedFill
                      | .storeRead => .droppedStoreRead
                      | .chunk => .droppedChunk
                      | other => other }
                fills := []
                refusedFills := []
                storeRead := none }
            frf := FaultFile.reset
            pm := PerformanceMonitor.reset
            es := EventSummary.reset
            mu := ManagementUnit.reset
            sul := { s.sul with state := .waitStore } }
      else
        { s with
          tp := { s.tp with replies := rest, transmitter := none }
          dsp := { s.dsp with tags := s.dsp.tags.set r.tag.val TagRecord.blank } })

/-! ## Power and the trunk line -/

/-- POWER_LOSS and POWER_ON (R143, R173). Contents are kept, but each byte of a lost operation's target is left old or at its target value as the world chooses (log 6). Every block takes its power-on values, which are those of the reset state (R3, R28, R92, R104, R122, R144, R156, R163), and the loader's first read begins. The model's choices in it: the state without power, that no event other than POWER_ON changes it, and POWER_ON with power applied as a loss and a power-on (log 5); the values of the reset state that no rule gives, which are the policy image, the undecodable count, the generation, the protection range, source, modified and the idle line (log 8); and the blank records of FREE tags (log 9). -/
def Obligations.PowerComesAndGoes : Prop :=
  (let off : State → Nat → List Host.Cell → State := fun s losses contents =>
     { State.reset with
       pending := s.pending
       powered := false
       powerLosses := losses
       ts := { TableStore.reset with contents := contents, reading := none }
       sul := { StartUpLoader.reset with state := .idle } }
   let on : State → Nat → List Host.Cell → State := fun s losses contents =>
     { State.reset with
       pending := s.pending
       powerLosses := losses
       ts :=
         { TableStore.reset with
           contents := contents
           reading :=
             some { reader := .loader, bytes := (List.range 64).map fun i => readByte contents (6144 + i) } } }
   (∀ s : State, s.powered = false →
     exec .powerLoss s = .next s ∧ exec .powerOn s = .next (on s s.powerLosses s.ts.contents)) ∧
   ∀ s : State, s.powered = true → StoreSound s.ts →
     ∃ contents : List Host.Cell, Memory.wf contents ∧
       (∀ a : Nat,
         readByte contents a = readByte s.ts.contents a ∨
         (∃ o : Operation, (s.ts.active = some o ∨ s.ts.suspended = some o) ∧
           o.op.targetByte a (readByte s.ts.contents a) = some (readByte contents a))) ∧
       exec .powerLoss s = .next (off s (s.powerLosses + 1) contents) ∧
       exec .powerOn s = .next (on s (s.powerLosses + 1) contents)) ∧
  ∀ (c : Instr) (s : State), c ≠ .powerOn → s.powered = false → exec c s = .next s

/-- The receiving line enters break, and a frame that the receiver gathers ends there; at the return to idle that frame is judged as complete with the bytes received before the break, by the results of R158 that `FramesAreJudged` gives (R159, R162). A break held for 200 µs is detected before the line returns (log 24). LINE_ENTERS_BREAK on a line in break is the model's choice (log 1), and so is that the cut bytes come with it and stand in reception until the return (log 2, log 15). A transmission begins with ATTENTION stamped from the sources present (R155, R160). -/
def Obligations.TheTrunkLineMoves : Prop :=
  (∀ (s : State) (received : LineFrame), s.powered = true →
    exec (.lineEntersBreak received) s = .next
      (if s.tp.lineInBreak = true then s
      else
        { s with
          tp :=
            { s.tp with
              lineInBreak := true
              breakTimer := some 0
              reception :=
                if s.tp.receiver = .receiving ∧ received.age ≤ s.tp.openFor ∧ received.bytes ≠ [] then
                  some received.bytes
                else none } })) ∧
  (∀ s : State, s.powered = true → TrunkSound s.tp →
    let idle : TrunkPort → TrunkPort := fun t =>
      { t with
        lineInBreak := false
        breakTimer := none
        reception := none
        receiver := if t.receiver = .inBreak then .receiving else t.receiver }
    (s.tp.breakTimer ≠ some 200 →
      exec .lineReturnsToIdle s = .next
        (match s.tp.reception with
        | none => { s with tp := idle s.tp }
        | some frame => receiveFrame frame { s with tp := idle s.tp })) ∧
    ∀ u : State, s.tp.breakTimer = some 200 → exec .trunkBreak s = .next u →
      exec .lineReturnsToIdle s = .next { u with tp := idle u.tp }) ∧
  ∀ (s : State) (r : Response) (rest : List Response), s.powered = true → s.tp.transmitter = none →
    s.tp.replies = r :: rest →
    ∃ attention : Bool,
      (attention = true ↔
        ((∃ n : Fin 8, s.frf.records[n.val].isSome = true) ∧ bitOf 0 s.es.mask = false) ∨
        (s.frf.overflow = true ∧ bitOf 1 s.es.mask = false) ∨
        ((s.ust.changes ≠ [] ∨ s.ust.overflow = true) ∧ bitOf 2 s.es.mask = false) ∨
        (s.iqe.state = .error ∧ bitOf 3 s.es.mask = false) ∨
        (s.es.fenceNotify = true ∧ bitOf 4 s.es.mask = false) ∨
        (s.es.storeDone = true ∧ bitOf 5 s.es.mask = false) ∨
        (s.es.portShut = true ∧ bitOf 6 s.es.mask = false) ∨
        (s.es.counterSaturated = true ∧ bitOf 7 s.es.mask = false)) ∧
      exec .startOfTransmission s = .next
        { s with
          tp :=
            { s.tp with
              transmitter :=
                some
                  (withCheck
                    ([byteOf (32 + r.tag.val), r.unit, r.outcome.code,
                      byteOf ((if attention = true then 128 else 0) + (if r.status.isSome = true then 64 else 0)),
                      r.status.getD 0, byteOf r.payload.length] ++ r.payload)) } }

/-- A complete frame has one of three results (R158); the check is that of R158, whose worked value is included. FRAME_COMPLETION judges the frame while the receiver is RECEIVING. While it is not, the frame is lost, and so is a frame that had begun before the receiver became RECEIVING (R159; that it is told by the frame's age and the receiver's time as RECEIVING is the model's, log 2). -/
def Obligations.FramesAreJudged : Prop :=
  crc [49, 50, 51, 52, 53, 54, 55, 56, 57] = 10673 ∧
  (∀ (s : State) (frame : List Byte),
    let checked := frame.take (frame.length - 2)
    receiveFrame frame s =
      if frame.length < 3 ∨ 55 < frame.length ∨
          frame.drop (frame.length - 2) ≠ [byteOf ((crc checked).toNat / 256), byteOf (crc checked).toNat] then
        recordFault { kind := .frameCheck, unit := none, branch := none, tag := none, detail := 0, repeats := 0 }
          (count (.trunk .frameCheckErrors) s)
      else if 8 ≤ s.tp.intake.length then count (.trunk .intakeDiscards) s
      else count (.trunk .framesReceived) { s with tp := { s.tp with intake := s.tp.intake ++ [frame] } }) ∧
  ∀ (s : State) (frame : LineFrame), s.powered = true →
    (s.tp.receiver ≠ .receiving → exec (.frameCompletion frame) s = .next s) ∧
    (s.tp.receiver = .receiving → s.tp.openFor < frame.age → exec (.frameCompletion frame) s = .next s) ∧
    (s.tp.receiver = .receiving → frame.age ≤ s.tp.openFor → s.tp.lineInBreak = false →
      exec (.frameCompletion frame) s = .next (receiveFrame frame.bytes s))

/-- A trunk break (R162, R22, R45, R63, R89, R167): every record is freed, and what each record stood for leaves the block that held it. References of QUEUED transactions are released, FILLING slots are dropped with their fills, a served one's result with them (R45), a waiting FENCE whose cache is thereby drained completes (R44, R118), and everything else is as before. The command acts when the break timer has reached 200 µs; before, it leaves the state as it is (log 1). That a freed record is blank is the model's choice (log 9), and so is that a refusal not yet reported leaves with its slot (log 12). -/
def Obligations.TrunkBreakFrees : Prop :=
  ∀ s : State, s.powered = true →
    (¬ (s.tp.lineInBreak = true ∧ s.tp.breakTimer = some 200) → exec .trunkBreak s = .next s) ∧
    (s.tp.lineInBreak = true → s.tp.breakTimer = some 200 →
      let queuedOn : SlotNo → Nat := fun i =>
        ((List.finRange 16).filter fun t : Tag => (s.tag t).state = .queued ∧ (s.tag t).slot = some i).length
      let left : SlotNo → CacheSlot := fun i =>
        match s.slot i with
        | .empty => .empty
        | .filling _ _ _ => .empty
        | .valid v route m => .valid v route (m - queuedOn i)
        | .stale v route m => if queuedOn i ≠ 0 ∧ m ≤ queuedOn i then .empty else .stale v route (m - queuedOn i)
      let filling : SlotNo → Bool := fun i => match s.slot i with | .filling _ _ _ => true | _ => false
      let fenceEnds : Prop :=
        s.iqe.state = .waitingFence ∧
        (∃ i : SlotNo, ((s.slot i).isStale = true ∧ left i = .empty) ∨ (s.slot i).marked = true) ∧
        ∀ i : SlotNo, (left i).isStale = false
      let counted := count (.trunk .breaks) s
      exec .trunkBreak s = .next
        (settle
          { counted with
            tp :=
              { s.tp with
                receiver := if s.tp.receiver = .receiving then .inBreak else s.tp.receiver
                openFor := 0
                reception := none
                intake := []
                replies := []
                transmitter := none
                breakTimer := none }
            dsp := { tags := Vector.replicate 16 TagRecord.blank, nextSeq := s.dsp.nextSeq }
            rc := { s.rc with slots := Vector.ofFn left }
            pu := { s.pu with held := [] }
            ports :=
              Vector.ofFn fun b : Branch =>
                { s.port b with
                  queue := []
                  exchange :=
                    match (s.port b).exchange with
                    | .idle => .idle
                    | .sending x => .sending { x with orphan := true, tag := none, last := true }
                    | .waiting x => .waiting { x with orphan := true, tag := none, last := true } }
            iqe :=
              match s.iqe.queue with
              | [] => s.iqe
              | d :: rest =>
                if fenceEnds then
                  { s.iqe with
                    queue := rest
                    state := if rest = [] then .idle else .running
                    lastCompletion := some { seq := d.seq, requested := 4, performed := 4 } }
                else s.iqe
            es :=
              match s.iqe.queue with
              | [] => counted.es
              | d :: _ =>
                if fenceEnds then { counted.es with fenceNotify := s.es.fenceNotify || d.notify } else counted.es
            ts :=
              { s.ts with
                fills := s.ts.fills.filter fun f => !filling f.slot
                refusedFills := s.ts.refusedFills.filter fun i => !filling i
                reading :=
                  s.ts.reading.map fun q =>
                    { q with
                      reader :=
                        match q.reader with
                        | .fill i => if filling i = true then .droppedFill else .fill i
                        | other => other } }
            mu :=
              { queue :=
                  s.mu.queue.filterMap fun e =>
                    match e with
                    | .executing _ => some (.executing none)
                    | .waiting _ => none
                halted := none } }))

/-! ## Dispatch and lookup -/

/-- DISPATCH (R4) of a frame that is answered, discarded or handed on at once: a busy tag (R6), a bad request (R5), a management request (R7), a QUERY-LAST (R8). A field that a short frame does not reach takes the zero value (R176; log 17). -/
def Obligations.DispatchAnswersAtOnce : Prop :=
  ∀ (s : State) (frame : List Byte) (rest : List (List Byte)), s.powered = true → s.tp.intake = frame :: rest →
    let field : Nat → Byte := fun i => if i + 2 < frame.length then frame.getD i 0 else 0
    let payload := (frame.take (frame.length - 2)).drop 5
    let t : Tag := Fin.ofNat 16 (field 0).toNat
    let unit := field 1
    let op := ReqOp.ofCode (field 2)
    let length := (field 4).toNat
    let taken : State := { s with tp := { s.tp with intake := rest } }
    let record : TagRecord :=
      { state := .lookup
        seq := s.dsp.nextSeq
        op := op
        unit := unit
        channel := field 3
        length := field 4
        payload := if op = some .read ∨ op = some .queryLast then [] else payload
        slot := none
        facts := none
        cancelPending := false
        members := Vector.replicate 4 none
        outcome := none }
    let filled : State :=
      { taken with dsp := { tags := s.dsp.tags.set t.val record, nextSeq := s.dsp.nextSeq + 1 } }
    let carries : Prop := frame.length = length + 7
    let disagrees : Prop :=
      if unit = 0 then ¬ (length ≤ 48 ∧ carries)
      else
        match op with
        | some .read => ¬ (1 ≤ length ∧ length ≤ 48 ∧ frame.length = 7)
        | some .write => ¬ (1 ≤ length ∧ length ≤ 48 ∧ carries)
        | some .exchange => ¬ (1 ≤ length ∧ length ≤ 48 ∧ carries)
        | some .queryLast => ¬ (length = 0 ∧ frame.length = 7)
        | none => True
    let bad : Prop :=
      (field 0).toNat / 16 ≠ 1 ∨ (240 ≤ unit.toNat ∧ unit.toNat ≤ 254) ∨ op = none ∨ 63 < (field 3).toNat ∨ disagrees ∨
      (unit.toNat = 255 ∧ op ≠ some .write)
    ((s.tag t).state ≠ .free →
      exec .dispatch s = .next
        (settle
          (recordFault { kind := .tagReuse, unit := none, branch := none, tag := some t, detail := 0, repeats := 0 }
            (count (.trunk .tagReuses) taken)))) ∧
    ((s.tag t).state = .free → bad →
      exec .dispatch s = .next
        (settle
          (recordFault
            { kind := .badRequest
              unit := if 1 ≤ unit.toNat ∧ unit.toNat ≤ 239 then some unit else none
              branch := none
              tag := some t
              detail := 0
              repeats := 0 }
            (endPlain t .badRequest filled)))) ∧
    ((s.tag t).state = .free → ¬ bad → unit = 0 →
      exec .dispatch s = .next
        (settle
          (if op ≠ some .write then endPlain t .refusedIllegal filled
          else if 4 ≤ s.mu.queue.length then endPlain t .refusedBusy filled
          else
            { filled with
              dsp := { filled.dsp with tags := s.dsp.tags.set t.val { record with state := .mgmt } }
              mu := { s.mu with queue := s.mu.queue ++ [.waiting t] } }))) ∧
    ∀ i : Fin 239, (s.tag t).state = .free → ¬ bad → unit = byteOf (i.val + 1) → op = some .queryLast →
      let u := s.ust.units[i.val]
      exec .dispatch s = .next
        (settle
          (endTransaction t .doneLocal u.status false
            [match u.lastOutcome with | some o => o.code | none => 0xFF, u.status.getD 0] filled))

/-- DISPATCH of a good broadcast goes to the policy check (R10); of a good unit request, to a lookup that hits (R29), joins (R30) or misses (R31). The frame's fields are those that `DispatchAnswersAtOnce` reads. A join stands after every waiter dispatched earlier and before every one dispatched later (R30). A miss withdraws what the victim's last fill left at the store: waiting reads leave, a read in progress is dropped (R32, R136), and a refusal not yet reported leaves too (log 12). -/
def Obligations.DispatchLooksUp : Prop :=
  ∀ (s : State) (frame : List Byte) (rest : List (List Byte)), s.powered = true → s.tp.intake = frame :: rest →
    let r := decodeRequest frame
    let u : State :=
      { s with
        tp := { s.tp with intake := rest }
        dsp := { tags := s.dsp.tags.set r.tag.val (newRecord s.dsp.nextSeq r), nextSeq := s.dsp.nextSeq + 1 } }
    (s.tag r.tag).state = .free → r.isBad = false →
    (r.unit = 255 → exec .dispatch s = .next (settle (broadcastPolicyCheck r.tag u))) ∧
    (r.unit ≠ 0 → r.unit ≠ 255 → ReqOp.ofCode r.opCode ≠ some .queryLast → CacheSound s.rc →
      (∀ (i : SlotNo) (route : Route) (n : Nat), s.slot i = .valid r.unit route n →
        exec .dispatch s = .next
          (settle
            (unitPolicyCheck r.tag i route
              (count (.bridge .cacheHits)
                { u with rc := { s.rc with recency := i :: s.rc.recency.filter (· ≠ i) } })))) ∧
      (∀ (i : SlotNo) (mark : Bool) (before after : List Tag), s.slot i = .filling r.unit mark (before ++ after) →
        let later : Tag → Prop := fun v => ¬ (1 ≤ (s.dsp.nextSeq - (u.tag v).seq).toNat ∧
          (s.dsp.nextSeq - (u.tag v).seq).toNat ≤ 2147483647)
        (∀ v ∈ before, ¬ later v) → (∀ v ∈ after.head?, later v) →
        exec .dispatch s = .next
          (settle
            (count (.bridge .cacheMisses)
              { u with
                rc :=
                  { s.rc with slots := s.rc.slots.set i.val (.filling r.unit mark (before ++ r.tag :: after)) } }))) ∧
      ∀ i : SlotNo, (∀ j : SlotNo, (s.slot j).matchesUnit r.unit = false) → s.rc.victim = some i →
        let issued :=
          judgeFill i r.unit
            (count (.bridge .cacheMisses)
              { u with
                rc :=
                  { slots := s.rc.slots.set i.val (.filling r.unit false [r.tag])
                    recency := s.rc.recency.filter (· ≠ i) }
                ts :=
                  { s.ts with
                    fills := s.ts.fills.filter fun f => f.slot ≠ i
                    refusedFills := s.ts.refusedFills.filter fun j => j ≠ i
                    reading :=
                      s.ts.reading.map fun q => if q.reader = .fill i then { q with reader := .droppedFill } else q } })
        exec .dispatch s = .next (settle (if (s.slot i).marked = true then drainReport issued else issued)))

/-- The victim of a miss (R32): the lowest EMPTY slot; failing one, the least recent VALID slot with no references; failing both, the lowest FILLING slot with no waiters. An invalidation of one slot, by the state it finds (R42), the release of a reference (R41), and the drain report that completes a waiting FENCE (R44, R117). -/
def Obligations.SlotsChangeHands : Prop :=
  (∀ c : RouteCache, CacheSound c →
     let empty : SlotNo → Prop := fun i => c.slots[i.val] = .empty
     let idle : SlotNo → Prop := fun i => ∃ u route, c.slots[i.val] = .valid u route 0
     let unawaited : SlotNo → Prop := fun i => ∃ u mark, c.slots[i.val] = .filling u mark []
     (∀ i, empty i → (∀ j, j < i → ¬ empty j) → c.victim = some i) ∧
     (∀ (i : SlotNo) (before after : List SlotNo), (∀ j, ¬ empty j) → c.recency = before ++ i :: after → idle i →
       (∀ j ∈ after, ¬ idle j) → c.victim = some i) ∧
     (∀ i, (∀ j, ¬ empty j) → (∀ j, ¬ idle j) → unawaited i → (∀ j, j < i → ¬ unawaited j) → c.victim = some i) ∧
     ((∀ j, ¬ empty j ∧ ¬ idle j ∧ ¬ unawaited j) → c.victim = none)) ∧
  ∀ (s : State) (i : SlotNo),
    let slotBecomes : CacheSlot → State := fun c => { s with rc := { s.rc with slots := s.rc.slots.set i.val c } }
    let leaves : CacheSlot → State := fun c =>
      { s with rc := { slots := s.rc.slots.set i.val c, recency := s.rc.recency.filter (· ≠ i) } }
    invalidateSlot i s =
      (match s.slot i with
      | .valid u route n => if n = 0 then leaves .empty else leaves (.stale u route n)
      | .filling u _ w => slotBecomes (.filling u true w)
      | _ => s) ∧
    releaseReference i s =
      (match s.slot i with
      | .valid u route n => slotBecomes (.valid u route (n - 1))
      | .stale u route n =>
        if n ≤ 1 then drainReport (slotBecomes .empty) else slotBecomes (.stale u route (n - 1))
      | _ => s) ∧
    (s.iqe.state ≠ .waitingFence → drainReport s = s) ∧
    ((∃ j : SlotNo, (s.slot j).isStale = true ∨ (s.slot j).marked = true) → drainReport s = s) ∧
    ∀ (d : Descriptor) (rest : List Descriptor), s.iqe.state = .waitingFence → s.iqe.queue = d :: rest →
      (∀ j : SlotNo, (s.slot j).isStale = false ∧ (s.slot j).marked = false) →
      drainReport s =
        { s with
          iqe :=
            { s.iqe with
              queue := rest
              state := if rest = [] then .idle else .running
              lastCompletion := some { seq := d.seq, requested := 4, performed := 4 } }
          es := { s.es with fenceNotify := s.es.fenceNotify || d.notify } }

/-! ## Fills -/

/-- A stored route entry as it decodes (R25, R179). The configuration record is judged as a whole (R172, R179). -/
def Obligations.StoredRecordsDecode : Prop :=
  (∀ e : List Byte, e.length = 16 →
     let marker := byteAt e 0
     let inRange : Prop :=
       (byteAt e 1).toNat ≤ 3 ∧ 1 ≤ (byteAt e 2).toNat ∧ (byteAt e 2).toNat ≤ 62 ∧
       (byteAt e 3 = 1 ∨ byteAt e 3 = 2 ∨ byteAt e 3 = 3) ∧ (byteAt e 4).toNat ≤ 15 ∧ (byteAt e 5).toNat ≤ 63 ∧
       (byteAt e 6).toNat ≤ 3
     decodeRoute e =
       if marker = 0xFF ∨ marker = 0x00 then .absent
       else if marker = 0xA5 ∧ inRange then
         .present
           { branch := Fin.ofNat 4 (byteAt e 1).toNat
             physUnit := byteAt e 2
             service := if byteAt e 3 = 1 then .inService else if byteAt e 3 = 2 then .oosLocal else .oosRefuse
             policyClass := Fin.ofNat 16 (byteAt e 4).toNat
             offset := byteAt e 5
             timeoutClass := Fin.ofNat 4 (byteAt e 6).toNat
             conditioning := byteAt e 7
             absorb := (byteAt e 8).toNat % 2 == 1
             watch := (byteAt e 8).toNat / 2 % 2 == 1 }
       else .malformed) ∧
  ∀ r : List Byte, r.length = 64 →
    let at' : Nat → Nat := fun n => (byteAt r n).toNat
    let check := crc (r.take 62)
    ((decodeRecord r).isSome = true ↔
      (byteAt r 62 = byteOf (check.toNat / 256) ∧ byteAt r 63 = byteOf check.toNat) ∧
      (∀ n : Fin 4, at' (2 + n.val) ≤ 3 ∧ 1 ≤ at' (6 + n.val) ∧ at' (6 + n.val) ≤ 15 ∧ 1 ≤ at' (10 + n.val)) ∧
      at' 14 ≤ 15 ∧
      (at' 17 = 0 ∨ (at' 17 = 1 ∧ at' 18 ≤ at' 19 ∧ at' 19 ≤ 7)) ∧
      (∃ n : Fin 64, byteAt r n.val ≠ 0xFF)) ∧
    ∀ x : LoadedRecord, decodeRecord r = some x →
      x.mask = byteAt r 16 ∧
      (∀ b : Branch,
        x.values.enabled[b.val] = bitOf b.val (byteAt r 0) ∧ x.values.broadcast[b.val] = bitOf b.val (byteAt r 1) ∧
        x.values.retryLimit[b.val].val = at' (2 + b.val) ∧ x.values.echoLimit[b.val].val = at' (6 + b.val) ∧
        x.values.timeout[b.val] = byteAt r (10 + b.val)) ∧
      x.values.broadcastClass.val = at' 14 ∧
      x.values.autoSuspend = bitOf 0 (byteAt r 15) ∧ x.values.autoSnapshot = bitOf 1 (byteAt r 15) ∧
      x.values.protection =
        (if at' 17 = 0 then none else some (Fin.ofNat 8 (at' 18), Fin.ofNat 8 (at' 19)))

/-- FILL_COMPLETION (R35, R36, R38, R39): the port is free, and the result reaches the slot by its refill mark, its waiters and the decoded entry. FILL_REFUSAL (R37): the slot becomes EMPTY, its waiters end STORE-BUSY in order, no fault is recorded, and a refill mark that goes with the slot is a drain event. That FILL_REFUSAL names the slot (log 11), and leaves the state as it is where no refusal of that slot is on its way (log 1), are the model's choices. -/
def Obligations.FillsComplete : Prop :=
  (∀ (s : State) (i : SlotNo) (bytes : List Byte), s.powered = true →
     let freed : State := { s with ts := { s.ts with reading := none } }
     let slotBecomes : CacheSlot → State := fun c => { freed with rc := { s.rc with slots := s.rc.slots.set i.val c } }
     let ended : FaultKind → Byte → List Tag → State := fun kind unit waiters =>
       waiters.foldl (fun u t => endPlain t .noRoute u)
         (match waiters with
         | [] => slotBecomes .empty
         | t :: _ =>
           recordFault { kind := kind, unit := some unit, branch := none, tag := some t, detail := 0, repeats := 0 }
             (slotBecomes .empty))
     (s.ts.reading = some { reader := .droppedFill, bytes := bytes } →
       exec .fillCompletion s = .next (settle freed)) ∧
     (s.ts.reading = some { reader := .fill i, bytes := bytes } →
       ∀ (unit : Byte) (waiters : List Tag),
         (s.slot i = .filling unit true waiters →
           exec .fillCompletion s = .next
             (settle
               (drainReport
                 (if waiters = [] then slotBecomes .empty
                 else judgeFill i unit (slotBecomes (.filling unit false waiters)))))) ∧
         (s.slot i = .filling unit false waiters →
           exec .fillCompletion s = .next
             (settle
               (match decodeRoute bytes with
               | .present route =>
                 waiters.foldl (fun u t => unitPolicyCheck t i route u)
                   { freed with
                     rc :=
                       { slots := s.rc.slots.set i.val (.valid unit route 0)
                         recency := i :: s.rc.recency.filter (· ≠ i) } }
               | .absent => ended .noRoute unit waiters
               | .malformed => ended .routeMalformed unit waiters))))) ∧
  ∀ (s : State) (i : SlotNo), s.powered = true →
    (i ∉ s.ts.refusedFills → exec (.fillRefusal i) s = .next s) ∧
    ∀ (unit : Byte) (mark : Bool) (waiters : List Tag), i ∈ s.ts.refusedFills → s.slot i = .filling unit mark waiters →
      let ended :=
        waiters.foldl (fun u t => endPlain t .storeBusy u)
          { s with
            ts := { s.ts with refusedFills := s.ts.refusedFills.erase i }
            rc := { s.rc with slots := s.rc.slots.set i.val .empty } }
      exec (.fillRefusal i) s = .next (settle (if mark = true then drainReport ended else ended))

/-- The judgement of a fill, by the first row of R137 that holds (R139 for the last), and the choice of the arbiter for a free port (R136, R59, R173): it begins no chunk and no loader read while an operation is active, and no chunk under an AUTO suspension or while a fill waits. What follows at the store at the end of an event, in the model's order (log 18): the automatic resume (R140), the loader's examination in WAIT-STORE (R173; log 22 for an AUTO suspension in sectors 4 to 6), the arbiter. A resume judges the waiting fills again, in issue order (R133, R134, R138). -/
def Obligations.FillsAreJudgedAndServed : Prop :=
  (∀ (s : State) (i : SlotNo) (unit : Byte),
    let sector := unit.toNat / 64
    let joins : FillWait → TableStore := fun w =>
      { s.ts with fills := s.ts.fills ++ [{ slot := i, unit := unit, wait := w }] }
    let refused : State :=
      count (.bridge .storeBusyRefusals) { s with ts := { s.ts with refusedFills := s.ts.refusedFills ++ [i] } }
    judgeFill i unit s =
      if s.ts.active.map (·.op.sector) = some sector ∨ s.ts.suspended.map (·.op.sector) = some sector then refused
      else if s.ts.active = none then { s with ts := joins .eligible }
      else if s.ts.phase = .suspending .management ∨ s.ts.phase = .suspending .auto then
        { s with ts := joins .forSuspension }
      else if s.ts.suspended ≠ none then refused
      else if s.config.autoSuspend = false then refused
      else if s.ts.holdoff ≠ none then { s with ts := joins .forHoldoff }
      else { s with ts := { joins .forSuspension with phase := .suspending .auto } }) ∧
  (∀ s : State,
    (s.ts.reading ≠ none → arbiter s = s) ∧
    (s.ts.reading = none →
      let read : Reader → Nat → Nat → Option PortRead := fun reader address n =>
        some { reader := reader, bytes := (List.range n).map fun i => readByte s.ts.contents (address + i) }
      (∀ (before after : List WaitingFill) (f : WaitingFill), s.ts.fills = before ++ f :: after → f.wait = .eligible →
        (∀ g ∈ before, g.wait ≠ .eligible) → (s.ts.fills.map (·.slot)).Nodup →
        arbiter s =
          { s with
            ts := { s.ts with reading := read (.fill f.slot) (16 * f.unit.toNat) 16, fills := before ++ after } }) ∧
      ((∀ f ∈ s.ts.fills, f.wait ≠ .eligible) →
        (∀ q, s.ts.storeRead = some q →
          arbiter s = { s with ts := { s.ts with reading := read .storeRead q.address q.count, storeRead := none } }) ∧
        (s.ts.storeRead = none →
          (∀ (k : Fin 32) (bad : Nat), s.pu.activation = .running k bad → s.ts.active = none →
            s.ts.phase ≠ .suspended .auto → s.ts.phase ≠ .suspending .auto → s.ts.fills = [] →
            arbiter s = { s with ts := { s.ts with reading := read .chunk (4096 + 64 * k.val) 64 } }) ∧
          (∀ (k : Fin 33) (record : Option LoadedRecord) (bad : Nat), s.pu.activation = .idle →
            s.sul.state = .reading k record bad → s.ts.active = none →
            arbiter s =
              { s with
                ts :=
                  { s.ts with
                    reading :=
                      read .loader (if k.val = 0 then 6144 else 4096 + 64 * (k.val - 1)) 64 } }) ∧
          (s.ts.active ≠ none → arbiter s = s) ∧
          ((∀ k record bad, s.sul.state ≠ .reading k record bad) →
            s.pu.activation = .idle ∨ s.ts.phase = .suspended .auto ∨ s.ts.phase = .suspending .auto ∨ s.ts.fills ≠ [] →
            arbiter s = s))))) ∧
  ∀ s : State,
    settle s = arbiter (loaderExamine (autoResume s)) ∧
    rejudgeFills s =
      s.ts.fills.foldl (fun u f => judgeFill f.slot f.unit u) { s with ts := { s.ts with fills := [] } } ∧
    let allows : Prop :=
      s.ts.phase = .suspended .auto ∧ s.ts.active = none ∧ s.ts.fills = [] ∧ s.ts.storeRead = none ∧
      ∀ q ∈ s.ts.reading, q.reader = .chunk ∨ q.reader = .droppedChunk ∨ q.reader = .loader
    let examines : Prop := s.sul.state = .waitStore ∧ s.ts.active = none
    (¬ allows → autoResume s = s) ∧
    (¬ examines → loaderExamine s = s) ∧
    (examines → (∀ o : Operation, s.ts.suspended = some o → o.op.sector < 4 ∨ 6 < o.op.sector) →
      loaderExamine s =
        if s.ts.phase = .suspended .auto then s else { s with sul := { s.sul with state := .reading 0 none 0 } }) ∧
    ∀ o : Operation, s.ts.suspended = some o →
      let resumed :=
        rejudgeFills
          { s with
            ts :=
              { s.ts with
                active := some o, suspended := none, phase := .noSuspension, wel := false, holdoff := some 100 } }
      (allows → autoResume s = resumed) ∧ (examines → 4 ≤ o.op.sector → o.op.sector ≤ 6 → loaderExamine s = resumed)

/-! ## Store operations, activation, loading and invalidation -/

/-- OPERATION_COMPLETION (R124, R126), SUSPEND_EFFECTIVE (R132) and HOLDOFF_EXPIRY of a holdoff that has run out (R134): what each changes before the waiting fills are judged again (R138; `FillsAreJudgedAndServed` says how). That the expiry judges them by the table of R137, auto-suspend included, is the model's reading of R138 and R139 (log 13). -/
def Obligations.StoreOperationsMove : Prop :=
  ∀ s : State, s.powered = true → StoreSound s.ts →
    (∀ o : Operation, s.ts.active = some o →
      ∃ contents : List Host.Cell, Memory.wf contents ∧
        (∀ a : Nat, readByte contents a =
          (o.op.targetByte a (readByte s.ts.contents a)).getD (readByte s.ts.contents a)) ∧
        exec .operationCompletion s = .next
          (settle
            (rejudgeFills
              { s with
                ts :=
                  { s.ts with
                    contents := contents
                    active := none
                    phase :=
                      match s.ts.phase with
                      | .suspending _ => .noSuspension
                      | p => p
                    holdoff := none }
                es := { s.es with storeDone := true } }))) ∧
    (∀ (owner : Owner) (o : Operation), s.ts.phase = .suspending owner → s.ts.active = some o →
      exec .suspendEffective s = .next
        (settle
          (rejudgeFills { s with ts := { s.ts with active := none, suspended := some o, phase := .suspended owner } }))) ∧
    (s.ts.holdoff = some 0 →
      exec .holdoffExpiry s = .next (settle (rejudgeFills { s with ts := { s.ts with holdoff := none } })))

/-- CHUNK_COMPLETION (R60, R61): the chunk's actions are written, and after chunk 31 the activation completes and the held transactions are released in order; a dropped result is written nowhere (R65). -/
def Obligations.ChunksArrive : Prop :=
  ∀ (s : State) (bytes : List Byte), s.powered = true →
    let freed : State := { s with ts := { s.ts with reading := none } }
    (s.ts.reading = some { reader := .droppedChunk, bytes := bytes } →
      exec .chunkCompletion s = .next (settle freed)) ∧
    ∀ (k : Fin 32) (bad : Nat), s.ts.reading = some { reader := .chunk, bytes := bytes } →
      s.pu.activation = .running k bad →
      let total := bad + (bytes.filter fun b => 3 < b.toNat).length
      ∃ actions : Vector Action 64,
        (∀ c : Fin 64, actions[c.val] =
          if byteAt bytes c.val = 0 then .pass else if byteAt bytes c.val = 2 then .busy
          else if byteAt bytes c.val = 3 then .localAnswer else .illegal) ∧
        exec .chunkCompletion s = .next
          (settle
            (if k = 31 then
              s.pu.held.foldl
                (fun u t =>
                  if (u.tag t).unit = 255 then broadcastPolicyCheck t u
                  else
                    lookup t
                      { u with dsp := { u.dsp with tags := u.dsp.tags.set t.val { u.tag t with state := .lookup } } })
                { freed with
                  pu :=
                    { image := s.pu.image.set k.val actions
                      activation := .idle
                      undecodable := total
                      generation := s.pu.generation + 1
                      held := [] } }
            else
              { freed with
                pu := { s.pu with image := s.pu.image.set k.val actions, activation := .running (k + 1) total } }))

/-- LOADER_READ_COMPLETION (R173, R174): read 0 is the configuration record, the reads after it the policy chunks, and the last applies the load in one event. The receiver's time as RECEIVING begins then, so a frame that began before is not gathered (R159; `FramesAreJudged`). -/
def Obligations.LoaderReadsAndApplies : Prop :=
  ∀ (s : State) (bytes : List Byte) (k : Fin 33) (record : Option LoadedRecord) (bad : Nat), s.powered = true →
    s.ts.reading = some { reader := .loader, bytes := bytes } → s.sul.state = .reading k record bad →
    let freed : State := { s with ts := { s.ts with reading := none } }
    let total := bad + (bytes.filter fun b => 3 < b.toNat).length
    (k = 0 →
      exec .loaderReadCompletion s = .next
        (settle { freed with sul := { s.sul with state := .reading 1 (decodeRecord bytes) 0 } })) ∧
    (∀ chunk : Fin 32, k.val = chunk.val + 1 → chunk ≠ 31 →
      exec .loaderReadCompletion s = .next
        (settle
          { freed with
            pu := { s.pu with image := s.pu.image.set chunk.val (decodeChunk bytes) }
            sul := { s.sul with state := .reading (k + 1) record total } })) ∧
    (k = 32 →
      let values := match record with | some r => r.values | none => ConfigValues.defaults
      exec .loaderReadCompletion s = .next
        (settle
          { freed with
            sul :=
              { state := .idle
                config :=
                  { values := values
                    source := match record with | some _ => .record | none => .defaults
                    modified := false } }
            frf :=
              match record with
              | some _ => s.frf
              | none =>
                s.frf.report
                  { kind := .configInvalid, unit := none, branch := none, tag := none, detail := 0, repeats := 0 }
            es := { s.es with mask := match record with | some r => r.mask | none => 0 }
            ts :=
              { s.ts with
                reading := none
                protection := if s.ts.lock = true then s.ts.protection else values.protection }
            pu :=
              { s.pu with
                image := s.pu.image.set 31 (decodeChunk bytes)
                undecodable := total
                generation := 0
                activation := .idle }
            ports :=
              Vector.ofFn fun b : Branch =>
                { s.port b with
                  state := if values.enabled[b.val] = true then .enabled else .disabled
                  echoFaults := 0
                  nextSeq := 0 }
            tp :=
              { s.tp with
                receiver := if s.tp.lineInBreak = true ∧ s.tp.breakTimer = none then .inBreak else .receiving
                openFor := 0 } }))

/-- PROCESSING_EVENT (R111 to R116): the head descriptor is malformed, is a FENCE, or is performed and completes. -/
def Obligations.DescriptorsAreProcessed : Prop :=
  ∀ (s : State) (d : Descriptor) (rest : List Descriptor), s.powered = true → s.iqe.state = .running →
    s.iqe.queue = d :: rest →
    let unitOk : Prop := 1 ≤ d.first.toNat ∧ d.first.toNat ≤ 239
    let rangeOk : Prop := 1 ≤ d.count.toNat ∧ unitOk ∧ d.first.toNat + d.count.toNat ≤ 240
    let wellFormed : Prop := (d.kind = 1 ∧ unitOk) ∨ (d.kind = 2 ∧ rangeOk) ∨ d.kind = 3 ∨ d.kind = 4
    let completed : Byte → InvalidationEngine := fun performed =>
      { s.iqe with
        queue := rest
        state := if rest = [] then .idle else .running
        lastCompletion := some { seq := d.seq, requested := d.kind, performed := performed } }
    let invalidated : State → List Byte → State := fun u units =>
      units.foldl
        (fun u unit =>
          match u.rc.matching unit with
          | some i => invalidateSlot i u
          | none => u) u
    (¬ wellFormed →
      exec .processingEvent s = .next
        { s with
          iqe := { s.iqe with state := .error, errorRecord := some { seq := d.seq, kind := d.kind } }
          frf :=
            s.frf.report
              { kind := .iqError, unit := none, branch := none, tag := none, detail := d.seq, repeats := 0 } }) ∧
    (d.kind = 1 → unitOk →
      exec .processingEvent s = .next { invalidated s [d.first] with iqe := completed 1 }) ∧
    (d.kind = 2 → rangeOk → d.count.toNat ≤ 8 →
      exec .processingEvent s = .next
        { invalidated s ((List.range d.count.toNat).map fun i => byteOf (d.first.toNat + i)) with
          iqe := completed 2 }) ∧
    (d.kind = 3 ∨ (d.kind = 2 ∧ rangeOk ∧ 8 < d.count.toNat) →
      exec .processingEvent s = .next
        { (List.finRange 32).foldl (fun u i => invalidateSlot i u) s with iqe := completed 3 }) ∧
    (d.kind = 4 →
      exec .processingEvent s = .next
        (if (∀ i : SlotNo, (s.slot i).isStale = false ∧ (s.slot i).marked = false) then
          { s with
            iqe := completed 4
            es := { s.es with fenceNotify := s.es.fenceNotify || d.notify } }
        else { s with iqe := { s.iqe with state := .waitingFence } }))

/-! ## Branch ports -/

/-- TAKE_HEAD (R72, R73, R75): the head entry becomes the current exchange and its first attempt begins. A port that is not ENABLED, or has an exchange or an empty queue, takes nothing: R72 gives such a port no event, and that the command then leaves the state as it is is the model's choice (log 1). -/
def Obligations.HeadsAreTaken : Prop :=
  ∀ (s : State) (b : Branch), s.powered = true →
    let p := s.port b
    let begun : Exchange → List QueueEntry → BranchPort := fun x rest =>
      { p with
        queue := rest
        exchange := .sending x
        nextSeq := p.nextSeq + 1
        responseTimer := none
        watchdog := some 3000 }
    (p.state ≠ .enabled ∨ p.exchange ≠ .idle ∨ p.queue = [] → exec (.takeHead b) s = .next s) ∧
    ∀ (t : Tag) (rest : List QueueEntry), p.state = .enabled → p.exchange = .idle →
      (∀ (f : RouteFacts) (op : ReqOp), p.queue = { tag := t, kind := .unit } :: rest → (s.tag t).facts = some f →
        (s.tag t).op = some op →
        exec (.takeHead b) s = .next
          (count (.branch b .exchanges)
            { s with
              dsp := { s.dsp with tags := s.dsp.tags.set t.val { s.tag t with state := .active } }
              ports :=
                s.ports.set b.val
                  (begun
                    { kind := .unit, orphan := false, tag := some t, physUnit := f.physUnit, op := op
                      physChannel := f.physChannel, length := (s.tag t).length, payload := (s.tag t).payload
                      timeoutClass := some f.timeoutClass, slot := (s.tag t).slot, attempt := 1, seq := p.nextSeq
                      last := false }
                    rest) })) ∧
      (p.queue = { tag := t, kind := .member } :: rest →
        exec (.takeHead b) s = .next
          (count (.branch b .exchanges)
            { s with
              ports :=
                s.ports.set b.val
                  (begun
                    { kind := .member, orphan := false, tag := some t, physUnit := 63, op := .write
                      physChannel := (s.tag t).channel, length := (s.tag t).length, payload := (s.tag t).payload
                      timeoutClass := none, slot := none, attempt := 1, seq := p.nextSeq, last := false }
                    rest) }))

/-- BRANCH_TRANSMISSION_END (R79 to R82): the bytes heard are compared with the command frame (R75, R178). -/
def Obligations.EchoesAreJudged : Prop :=
  ∀ (s : State) (b : Branch) (heard : List Byte) (x : Exchange), s.powered = true → (s.port b).exchange = .sending x →
    let p := s.port b
    let frame :=
      withCheck
        ([byteOf (80 + x.seq.toNat), x.physUnit, x.op.code, x.physChannel, x.length] ++
          (if x.op = .read then [] else x.payload))
    let becomes : BranchPort → State := fun q => { s with ports := s.ports.set b.val q }
    let faulty := count (.branch b .echoFaults) (becomes { p with watchdog := none, echoFaults := p.echoFaults + 1 })
    (heard = frame → x.kind = .member →
      exec (.branchTransmissionEnd b heard) s = .next
        (endExchange b x .portDown true none (becomes { p with watchdog := none, echoFaults := 0 }))) ∧
    (∀ k : Fin 4, heard = frame → x.kind = .unit → x.timeoutClass = some k →
      exec (.branchTransmissionEnd b heard) s = .next
        (becomes
          { p with
            watchdog := none
            echoFaults := 0
            exchange := .waiting x
            responseTimer := some (20 * s.config.timeout[k.val].toNat) })) ∧
    (heard ≠ frame →
      exec (.branchTransmissionEnd b heard) s = .next
        (if s.config.echoLimit[b.val].val ≤ p.echoFaults + 1 then shutDown b 1 faulty
        else failAttempt b x .unitError faulty))

/-- RESPONSE_TIMER_EXPIRY of a timer that has run out (R87), and what a failed attempt leads to, by the first condition of R76 that holds; a retry begins at once (R75). -/
def Obligations.AttemptsFail : Prop :=
  (∀ (s : State) (b : Branch) (x : Exchange), s.powered = true → (s.port b).exchange = .waiting x →
    (s.port b).responseTimer = some 0 →
    exec (.responseTimerExpiry b) s = .next
      (failAttempt b x .unitTimeout
        (count (.branch b .timeouts) { s with ports := s.ports.set b.val { s.port b with responseTimer := none } }))) ∧
  ∀ (s : State) (b : Branch) (x : Exchange) (cause : EndCause),
    let p := s.port b
    failAttempt b x cause s =
      if x.last = true then endExchange b x .portDown false none s
      else if x.kind = .unit ∧ x.tag.map (fun t => (s.tag t).cancelPending) = some true then
        endExchange b x cause false none s
      else if s.config.retryLimit[b.val].val < x.attempt then endExchange b x cause false none s
      else
        count (.branch b .exchanges)
          (count (.branch b .retries)
            { s with
              ports :=
                s.ports.set b.val
                  { p with
                    exchange := .sending { x with attempt := x.attempt + 1, seq := p.nextSeq }
                    nextSeq := p.nextSeq + 1
                    responseTimer := none
                    watchdog := some 3000 } })

/-- BRANCH_FRAME_HEARD (R83 to R86): in WAITING the frame is checked in order; in IDLE it is late; in SENDING it is part of the echo. -/
def Obligations.RepliesAreJudged : Prop :=
  ∀ (s : State) (b : Branch) (frame : List Byte), s.powered = true →
    let p := s.port b
    ((s.port b).exchange = .idle →
      exec (.branchFrameHeard b frame) s = .next (count (.branch b .lateReplies) s)) ∧
    (∀ x, (s.port b).exchange = .sending x → exec (.branchFrameHeard b frame) s = .next s) ∧
    ∀ x : Exchange, (s.port b).exchange = .waiting x →
      let field : Nat → Byte := fun i => frame.getD i 0
      let checked := frame.take (frame.length - 2)
      let code := field 2
      let length := (field 4).toNat
      let stopped : State := { s with ports := s.ports.set b.val { p with responseTimer := none } }
      let acceptable : Prop :=
        7 ≤ frame.length ∧
        frame.drop (frame.length - 2) = [byteOf ((crc checked).toNat / 256), byteOf (crc checked).toNat] ∧
        (field 0).toNat / 16 = 6 ∧ (code = 0 ∨ code = 1 ∨ code = 2) ∧ field 1 = x.physUnit ∧
        frame.length = length + 7 ∧
        length = (if code = 0 ∧ (x.op = .read ∨ x.op = .exchange) then x.length.toNat else 0)
      (¬ acceptable →
        exec (.branchFrameHeard b frame) s = .next
          (failAttempt b x .unitError (count (.branch b .badReplies) stopped))) ∧
      (acceptable → (field 0).toNat % 16 ≠ x.seq.toNat →
        exec (.branchFrameHeard b frame) s = .next (count (.branch b .lateReplies) s)) ∧
      (acceptable → (field 0).toNat % 16 = x.seq.toNat →
        exec (.branchFrameHeard b frame) s = .next
          (endExchange b x
            (if code = 0 then .ack ((frame.drop 5).take length) else if code = 1 then .reject else .busy) true
            (some (field 3)) (count (.branch b .goodReplies) stopped)))

/-- TRANSMIT_WATCHDOG_EXPIRY of a watchdog that has run out shuts the port down with detail watchdog (R79), and a shutdown (R78) ends the current exchange and then every entry, head first, before PORT-SHUT is recorded and latched. -/
def Obligations.PortsShutDown : Prop :=
  (∀ (s : State) (b : Branch) (x : Exchange), s.powered = true → (s.port b).exchange = .sending x →
    (s.port b).watchdog = some 0 → exec (.transmitWatchdogExpiry b) s = .next (shutDown b 2 s)) ∧
  ∀ (s : State) (b : Branch) (detail : Byte),
    let shut : State := { s with ports := s.ports.set b.val { s.port b with state := .shutDown } }
    let ended :=
      match (s.port b).exchange with
      | .idle => shut
      | .sending x => endExchange b x .portDown false none shut
      | .waiting x => endExchange b x .portDown false none shut
    let emptied :=
      (s.port b).queue.foldl
        (fun u e =>
          match e.kind with
          | .unit => endUnit e.tag .portDown none u
          | .member => endMember e.tag b false u)
        { ended with ports := ended.ports.set b.val { ended.port b with queue := [] } }
    shutDown b detail s =
      { emptied with
        frf :=
          emptied.frf.report
            { kind := .portShut, unit := none, branch := some b, tag := none, detail := detail, repeats := 0 }
        es := { emptied.es with portShut := true } } ∧
    (shutDown b detail s).port b =
      { s.port b with
        state := .shutDown
        queue := []
        exchange := .idle
        responseTimer := if (s.port b).exchange = .idle then (s.port b).responseTimer else none
        watchdog := if (s.port b).exchange = .idle then (s.port b).watchdog else none }

/-! ## Policy, and the ends of transactions -/

/-- A routed unit request that is not held is judged by the checks of R12 in their order; the local answer is that of R13, the entry into the queue that of R14. The action of a class, a direction and a channel stands at the channel's place of chunk 2c for fetch and 2c + 1 for store (R48, R179). -/
def Obligations.PolicyChecksInOrder : Prop :=
  (∀ (p : PolicyUnit) (c : Fin 16) (channel : Fin 64),
    p.action c false channel.val = (p.image[2 * c.val])[channel.val] ∧
    p.action c true channel.val = (p.image[2 * c.val + 1])[channel.val]) ∧
  ∀ (s : State) (t : Tag) (i : SlotNo) (route : Route),
    let r := s.tag t
    let channel := r.channel.toNat + route.offset.toNat
    let facts : RouteFacts :=
      { branch := route.branch
        physUnit := route.physUnit
        physChannel := byteOf channel
        timeoutClass := route.timeoutClass }
    let u : State :=
      { s with dsp := { s.dsp with tags := s.dsp.tags.set t.val { r with facts := some facts } } }
    let fetch := s.pu.action route.policyClass false channel
    let store := s.pu.action route.policyClass true channel
    let action : Action :=
      if r.op = some .write then store
      else if r.op = some .exchange then
        if fetch = .illegal ∨ store = .illegal then .illegal
        else if fetch = .busy ∨ store = .busy then .busy
        else if fetch = .localAnswer ∨ store = .localAnswer then .localAnswer
        else .pass
      else fetch
    let refused : OutcomeCode → State := fun o => count (.bridge .policyRefusals) (endPlain t o u)
    let illegal : State :=
      recordFault
        { kind := .policyIllegal, unit := some r.unit, branch := none, tag := some t, detail := byteOf channel
          repeats := 0 }
        (refused .refusedIllegal)
    let locally : State :=
      count (.bridge .localAnswers)
        (if r.op = some .read ∨ (r.op = some .exchange ∧ route.absorb = true) then
          endTransaction t .doneLocal none false (List.replicate r.length.toNat route.conditioning) u
        else if route.absorb = true then endTransaction t .doneLocal none false [] u
        else endTransaction t .refusedIllegal none false [] u)
    judgeUnitRequest t i route s =
      if route.service = .oosRefuse then refused .refusedBusy
      else if route.service = .oosLocal then locally
      else if 63 < channel then illegal
      else
        match action with
        | .illegal => illegal
        | .busy => refused .refusedBusy
        | .localAnswer => locally
        | .pass =>
          if (s.port route.branch).state ≠ .enabled then endPlain t .portDown u
          else if 4 ≤ (s.port route.branch).queue.length then endPlain t .refusedBusy u
          else
            { u with
              dsp :=
                { s.dsp with
                  tags := s.dsp.tags.set t.val { r with facts := some facts, state := .queued, slot := some i } }
              rc :=
                { s.rc with
                  slots :=
                    s.rc.slots.set i.val
                      (match s.slot i with
                      | .valid v q n => .valid v q (n + 1)
                      | c => c) }
              ports :=
                s.ports.set route.branch.val
                  { s.port route.branch with
                    queue := (s.port route.branch).queue ++ [{ tag := t, kind := .unit }] } }

/-- A broadcast is judged in the store direction on its virtual channel (R10, R56), and one that passes fans out to its members, branch 0 first (R15). While an activation is RUNNING a request is held instead, in dispatch order (R11, R50, R63). -/
def Obligations.BroadcastsFanOutAndRequestsAreHeld : Prop :=
  (∀ (s : State) (t : Tag),
    let channel := (s.tag t).channel.toNat
    judgeBroadcast t s =
      match s.pu.action s.config.broadcastClass true channel with
      | .illegal =>
        recordFault
          { kind := .policyIllegal, unit := some (s.tag t).unit, branch := none, tag := some t
            detail := byteOf channel, repeats := 0 }
          (count (.bridge .policyRefusals) (endPlain t .refusedIllegal s))
      | .busy => count (.bridge .policyRefusals) (endPlain t .refusedBusy s)
      | .localAnswer => count (.bridge .localAnswers) (endPlain t .doneLocal s)
      | .pass =>
        let isMember : Branch → Bool := fun b => s.config.broadcast[b.val] && (s.port b).state == .enabled
        decideBroadcast t
          { s with
            dsp :=
              { s.dsp with
                tags :=
                  s.dsp.tags.set t.val
                    { s.tag t with
                      state := .bcast
                      members :=
                        Vector.ofFn fun b =>
                          if isMember b = true then
                            if (s.port b).queue.length < 4 then some .pending else some .failed
                          else none } }
            ports :=
              Vector.ofFn fun b : Branch =>
                if isMember b = true ∧ (s.port b).queue.length < 4 then
                  { s.port b with queue := (s.port b).queue ++ [{ tag := t, kind := .member }] }
                else s.port b }) ∧
  ∀ (s : State) (t : Tag) (i : SlotNo) (route : Route),
    let later : Tag → Prop := fun v => ¬ (1 ≤ ((s.tag t).seq - (s.tag v).seq).toNat ∧
      ((s.tag t).seq - (s.tag v).seq).toNat ≤ 2147483647)
    (s.pu.activation = .idle →
      unitPolicyCheck t i route s = judgeUnitRequest t i route s ∧ broadcastPolicyCheck t s = judgeBroadcast t s) ∧
    ∀ before after : List Tag, s.pu.activation ≠ .idle → s.pu.held = before ++ after → t ∉ s.pu.held →
      (∀ v ∈ before, ¬ later v) → (∀ v ∈ after.head?, later v) →
      let held : State :=
        { s with
          dsp := { s.dsp with tags := s.dsp.tags.set t.val { s.tag t with state := .held } }
          pu := { s.pu with held := before ++ t :: after } }
      unitPolicyCheck t i route s = held ∧ broadcastPolicyCheck t s = held

/-- The end of a transaction (R20, R21): the outcome is written, the Unit Status Table updated (R94, R95, R98), the response appended, the record REPLYING. Ends without status, watch and payload are the plain ones. -/
def Obligations.TransactionsEnd : Prop :=
  (∀ (t : Tag) (o : OutcomeCode) (s : State), endPlain t o s = endTransaction t o none false [] s) ∧
  ∀ (s : State) (t : Tag) (o : OutcomeCode) (status : Option Byte) (watch : Bool) (payload : List Byte),
    let r := s.tag t
    let ended : State :=
      { s with
        tp :=
          { s.tp with
            replies := s.tp.replies ++ [{ tag := t, unit := r.unit, outcome := o, status := status, payload := payload }] }
        dsp :=
          { s.dsp with
            tags :=
              s.dsp.tags.set t.val
                { r with state := .replying, outcome := some o, members := Vector.replicate 4 none } } }
    ((∀ i : Fin 239, r.unit ≠ byteOf (i.val + 1)) ∨ r.op = some .queryLast ∨ o = .badRequest →
      endTransaction t o status watch payload s = ended) ∧
    ∀ i : Fin 239, r.unit = byteOf (i.val + 1) → r.op ≠ some .queryLast → o ≠ .badRequest →
      let v := s.ust.units[i.val]
      let changed : Prop := watch = true ∧ v.changed = false ∧ ∃ a b : Byte, v.status = some a ∧ status = some b ∧ a ≠ b
      let record : UnitRecord :=
        { lastOutcome := some o
          status := match status with | some b => some b | none => v.status
          changed := v.changed }
      (¬ changed →
        endTransaction t o status watch payload s =
          { ended with ust := { s.ust with units := s.ust.units.set i.val record } }) ∧
      (changed → s.ust.changes.length < 32 →
        endTransaction t o status watch payload s =
          { ended with
            ust :=
              { s.ust with
                units := s.ust.units.set i.val { record with changed := true }
                changes := s.ust.changes ++ [r.unit] } }) ∧
      (changed → 32 ≤ s.ust.changes.length →
        endTransaction t o status watch payload s =
          { ended with ust := { s.ust with units := s.ust.units.set i.val record, overflow := true } })

/-- A branch port ends a unit transaction (R17), a member of a broadcast (R16) and its exchange (R77, R90). The outcome of a broadcast is decided when none of its members is pending; one without any member ends PORT-DOWN (R16). -/
def Obligations.ExchangesEnd : Prop :=
  (∀ (s : State) (t : Tag) (cause : EndCause) (status : Option Byte),
    let r := s.tag t
    let outcome : OutcomeCode :=
      if r.cancelPending = true then .cancelled
      else
        match cause with
        | .ack _ => .done
        | .reject => .unitReject
        | .busy => .unitBusy
        | .unitTimeout => .unitTimeout
        | .unitError => .unitError
        | .portDown => .portDown
    let watch : Bool :=
      match r.slot with
      | some i =>
        match s.slot i with
        | .valid _ route _ => route.watch
        | .stale _ route _ => route.watch
        | _ => false
      | none => false
    let named : State := { s with dsp := { s.dsp with tags := s.dsp.tags.set t.val { r with slot := none } } }
    let released : State :=
      match r.slot with
      | some i => releaseReference i named
      | none => named
    let faulted : FaultKind → State := fun k =>
      recordFault
        { kind := k, unit := some r.unit, branch := r.facts.map (·.branch), tag := some t, detail := 0, repeats := 0 }
        released
    endUnit t cause status s =
      endTransaction t outcome status watch
        (match outcome, cause with
        | .done, .ack payload => payload
        | _, _ => [])
        (if outcome = .unitTimeout then faulted .unitTimeout
        else if outcome = .unitError then faulted .unitError
        else released)) ∧
  (∀ (s : State) (t : Tag) (b : Branch) (succeeded : Bool),
    let r := s.tag t
    let m := r.members.set b.val (some (if succeeded = true then .succeeded else .failed))
    endMember t b succeeded s =
      decideBroadcast t { s with dsp := { s.dsp with tags := s.dsp.tags.set t.val { r with members := m } } }) ∧
  (∀ (s : State) (t : Tag),
    let m := (s.tag t).members
    let stands : MemberState → Prop := fun x => ∃ c : Branch, m[c.val] = some x
    (stands .pending → decideBroadcast t s = s) ∧
    (¬ stands .pending → stands .succeeded → ¬ stands .failed → decideBroadcast t s = endPlain t .done s) ∧
    (¬ stands .pending → ¬ stands .succeeded → decideBroadcast t s = endPlain t .portDown s) ∧
    ((∀ c : Branch, m[c.val] = none) → decideBroadcast t s = endPlain t .portDown s) ∧
    (¬ stands .pending → stands .succeeded → stands .failed →
      ∃ failed : Byte, (∀ n : Fin 8, bitOf n.val failed = (m.toList.getD n.val none == some .failed)) ∧
        decideBroadcast t s = endTransaction t .broadcastPartial none false [failed] s)) ∧
  ∀ (s : State) (b : Branch) (x : Exchange) (cause : EndCause) (succeeded : Bool) (status : Option Byte),
    let reported : State :=
      match x.orphan, x.tag, x.kind, x.slot with
      | false, some t, .unit, _ => endUnit t cause status s
      | false, some t, .member, _ => endMember t b succeeded s
      | _, _, _, some i => releaseReference i s
      | _, _, _, none => s
    let p := reported.port b
    endExchange b x cause succeeded status s =
      { reported with
        ports :=
          reported.ports.set b.val
            { p with
              exchange := .idle
              responseTimer := none
              watchdog := none
              state := if p.state = .draining then .disabled else p.state } }

/-! ## Faults and counters -/

/-- A reported fault collapses, takes the lowest free record, or is lost (R147), by the collapse key of R145. A counter advances to 65535 and stays there; the 38 counters stand in the order of R150. -/
def Obligations.FaultsAndCountersAreRecorded : Prop :=
  (∀ (s : State) (r : FaultRecord), FaultFileSound s.frf →
    let sameKey : FaultRecord → FaultRecord → Prop := fun x y =>
      x.kind = y.kind ∧ x.unit = y.unit ∧ (x.unit = none → x.branch = y.branch)
    (∀ (i : Fin 8) (x : FaultRecord), s.frf.records[i.val] = some x → sameKey x r →
      recordFault r s =
        { s with
          frf :=
            { s.frf with
              records :=
                s.frf.records.set i.val
                  (some { x with repeats := if x.repeats = 255 then 255 else x.repeats + 1 }) } }) ∧
    ((∀ (i : Fin 8) (x : FaultRecord), s.frf.records[i.val] = some x → ¬ sameKey x r) →
      (∀ i : Fin 8, s.frf.records[i.val] = none → (∀ j : Fin 8, j < i → s.frf.records[j.val] ≠ none) →
        recordFault r s =
          { s with
            frf :=
              { s.frf with
                records := s.frf.records.set i.val (some { r with repeats := 0 })
                firstPending :=
                  if ∃ j : Fin 8, s.frf.records[j.val] ≠ none then s.frf.firstPending else some i } }) ∧
      ((∀ i : Fin 8, s.frf.records[i.val] ≠ none) →
        recordFault r s = { s with frf := { s.frf with overflow := true } }))) ∧
  (∀ (b : Branch) (c : BranchCounter), (Counter.branch b c).place.val = 7 * b.val +
    match c with
    | .exchanges => 0 | .goodReplies => 1 | .timeouts => 2 | .badReplies => 3 | .echoFaults => 4 | .lateReplies => 5
    | .retries => 6) ∧
  (∀ c : TrunkCounter, (Counter.trunk c).place.val =
    match c with
    | .framesReceived => 28 | .frameCheckErrors => 29 | .intakeDiscards => 30 | .breaks => 31 | .tagReuses => 32) ∧
  (∀ c : BridgeCounter, (Counter.bridge c).place.val =
    match c with
    | .cacheHits => 33 | .cacheMisses => 34 | .policyRefusals => 35 | .localAnswers => 36 | .storeBusyRefusals => 37) ∧
  ∀ (s : State) (c : Counter),
    let v := s.pm.live[c.place.val]
    count c s =
      if v = 65535 then s
      else
        { s with
          pm :=
            { s.pm with
              live := s.pm.live.set c.place.val (v + 1)
              saturated := if v = 65534 then s.pm.saturated.set c.place.val true else s.pm.saturated }
          es := { s.es with counterSaturated := s.es.counterSaturated || v == 65534 } }

/-! ## Reset and invariants -/

/-- The values that the rules give the bridge at power-on (R3, R28, R57, R92, R104, R122, R144, R156, R163, R164, R169, R172, R173), and the soundness of that state. The values that no rule gives are not stated (log 8). -/
def Obligations.ResetIsAsTheRulesSay : Prop :=
  let s := State.reset
  s.tp.receiver = .silent ∧ s.tp.reception = none ∧ s.tp.intake = [] ∧ s.tp.replies = [] ∧ s.tp.transmitter = none ∧
  s.tp.breakTimer = none ∧
  (∀ t : Tag, (s.tag t).state = .free) ∧ s.dsp.nextSeq = 0 ∧
  (∀ i : SlotNo, s.slot i = .empty) ∧ s.rc.recency = [] ∧
  s.pu.activation = .idle ∧ s.pu.held = [] ∧
  (∀ b : Branch,
    s.port b =
      { state := .disabled, queue := [], exchange := .idle, nextSeq := 0, echoFaults := 0, responseTimer := none
        watchdog := none }) ∧
  (∀ i : Fin 239, s.ust.units[i.val] = { lastOutcome := none, status := none, changed := false }) ∧
  s.ust.changes = [] ∧ s.ust.overflow = false ∧
  s.iqe = { queue := [], state := .idle, nextSeq := 0, lastCompletion := none, errorRecord := none } ∧
  s.ts.active = none ∧ s.ts.suspended = none ∧ s.ts.phase = .noSuspension ∧ s.ts.wel = false ∧ s.ts.holdoff = none ∧
  s.ts.lock = false ∧ s.ts.fills = [] ∧ s.ts.refusedFills = [] ∧ s.ts.storeRead = none ∧
  s.ts.reading.map (·.reader) = some .loader ∧
  (∀ n : Fin 8, s.frf.records[n.val] = none) ∧ s.frf.overflow = false ∧ s.frf.firstPending = none ∧
  (∀ n : Fin 38, s.pm.live[n.val] = 0 ∧ s.pm.saturated[n.val] = false ∧ s.pm.bank.values[n.val] = 0 ∧
    s.pm.bank.saturated[n.val] = false) ∧
  s.pm.bank.number = 0 ∧ s.pm.interval = 1000000 ∧
  s.es.fenceNotify = false ∧ s.es.storeDone = false ∧ s.es.portShut = false ∧ s.es.counterSaturated = false ∧
  s.mu.queue = [] ∧ s.mu.halted = none ∧
  s.sul.config.values = ConfigValues.defaults ∧ s.es.mask = 0 ∧ (∃ k, s.sul.state = .reading k none 0 ∧ k = 0) ∧
  Sound s

/-- A step keeps five queues within their capacities: the Intake Queue, the Branch Queues, the Management Queue, the Invalidation Queue and the Change List within 8, 4, 4, 16 and 32 (R157, R71, R164, R107, R97). The Reply Queue is not among them: its 16 (R157) follow from one response to a tag, which `TagsAreKept` keeps. A step also keeps the Trunk Port sound (R159, R162): the break timer runs only in break, an IN-BREAK receiver stands in a detected break, a cut frame stands only while the break timer runs, in a break not yet detected, with the receiver RECEIVING, and a receiver that is not RECEIVING has been so for no time. -/
def Obligations.CapacitiesAreKept : Prop :=
  ∀ s s' : State, step s = .next s' →
    (WithinCapacity s → WithinCapacity s') ∧ (TrunkSound s.tp → TrunkSound s'.tp)

/-- A step keeps the Change List and the change flags in agreement (R97). -/
def Obligations.ChangeListIsKept : Prop :=
  ∀ s s' : State, ChangeListAgrees s.ust → step s = .next s' → ChangeListAgrees s'.ust

/-- A step keeps the Fault Record File sound (R145): no two pending records share a collapse key, and the first-pending index names a pending record. -/
def Obligations.FaultFileIsKept : Prop :=
  ∀ s s' : State, FaultFileSound s.frf → step s = .next s' → FaultFileSound s'.frf

/-- A step keeps the Table Store sound (R124 to R127, R134): canonical contents, operations in the store, WEL never set beside an active operation, and the suspend phase, the nesting and the holdoff in agreement. -/
def Obligations.StoreIsKept : Prop :=
  ∀ s s' : State, StoreSound s.ts → step s = .next s' → StoreSound s'.ts

/-- A step keeps the Route Cache sound (R27, R33, R40): one matching slot per unit, the recency order over the VALID slots, a reference on each STALE slot. Where every tag is held as its record says, it keeps the count of R40: the references of a slot are the QUEUED and ACTIVE transactions and the orphans that name it. -/
def Obligations.CacheIsKept : Prop :=
  ∀ s s' : State, CacheSound s.rc → step s = .next s' →
    CacheSound s'.rc ∧ (TagsHeld s → ReferencesHeld s → ReferencesHeld s')

/-- A step keeps the Invalidation Queue Engine sound (R106, R109), and a FENCE that waits goes on finding the cache not drained (R117). -/
def Obligations.EngineIsKept : Prop :=
  ∀ s s' : State, EngineSound s.iqe → FenceWaits s → step s = .next s' → EngineSound s'.iqe ∧ FenceWaits s'

/-- A step keeps every place that holds a tag in agreement with the record of that tag (R1, R20, R26, R63, R71, R164). -/
def Obligations.TagsAreKept : Prop :=
  ∀ s s' : State, CacheSound s.rc → TagsHeld s → step s = .next s' → TagsHeld s'

end Statements
end

