-- ==== Sys2Proof/Laws/State.lean ====
section
/-!
SUPPORT. One lemma per field per update of State, so that no proof unfolds a record update, and what each accessor reads after each update.
-/

namespace Sys2Proof.Machine

@[simp] theorem setTag_pending (s : State) (t : Tag) (r : TagRecord) : (s.setTag t r).pending = s.pending := rfl
@[simp] theorem setTag_powered (s : State) (t : Tag) (r : TagRecord) : (s.setTag t r).powered = s.powered := rfl
@[simp] theorem setTag_powerLosses (s : State) (t : Tag) (r : TagRecord) : (s.setTag t r).powerLosses = s.powerLosses := rfl
@[simp] theorem setTag_tp (s : State) (t : Tag) (r : TagRecord) : (s.setTag t r).tp = s.tp := rfl
@[simp] theorem setTag_rc (s : State) (t : Tag) (r : TagRecord) : (s.setTag t r).rc = s.rc := rfl
@[simp] theorem setTag_pu (s : State) (t : Tag) (r : TagRecord) : (s.setTag t r).pu = s.pu := rfl
@[simp] theorem setTag_ports (s : State) (t : Tag) (r : TagRecord) : (s.setTag t r).ports = s.ports := rfl
@[simp] theorem setTag_ust (s : State) (t : Tag) (r : TagRecord) : (s.setTag t r).ust = s.ust := rfl
@[simp] theorem setTag_iqe (s : State) (t : Tag) (r : TagRecord) : (s.setTag t r).iqe = s.iqe := rfl
@[simp] theorem setTag_ts (s : State) (t : Tag) (r : TagRecord) : (s.setTag t r).ts = s.ts := rfl
@[simp] theorem setTag_frf (s : State) (t : Tag) (r : TagRecord) : (s.setTag t r).frf = s.frf := rfl
@[simp] theorem setTag_pm (s : State) (t : Tag) (r : TagRecord) : (s.setTag t r).pm = s.pm := rfl
@[simp] theorem setTag_es (s : State) (t : Tag) (r : TagRecord) : (s.setTag t r).es = s.es := rfl
@[simp] theorem setTag_mu (s : State) (t : Tag) (r : TagRecord) : (s.setTag t r).mu = s.mu := rfl
@[simp] theorem setTag_sul (s : State) (t : Tag) (r : TagRecord) : (s.setTag t r).sul = s.sul := rfl

@[simp] theorem setSlot_pending (s : State) (i : SlotNo) (c : CacheSlot) : (s.setSlot i c).pending = s.pending := rfl
@[simp] theorem setSlot_powered (s : State) (i : SlotNo) (c : CacheSlot) : (s.setSlot i c).powered = s.powered := rfl
@[simp] theorem setSlot_powerLosses (s : State) (i : SlotNo) (c : CacheSlot) : (s.setSlot i c).powerLosses = s.powerLosses := rfl
@[simp] theorem setSlot_tp (s : State) (i : SlotNo) (c : CacheSlot) : (s.setSlot i c).tp = s.tp := rfl
@[simp] theorem setSlot_dsp (s : State) (i : SlotNo) (c : CacheSlot) : (s.setSlot i c).dsp = s.dsp := rfl
@[simp] theorem setSlot_pu (s : State) (i : SlotNo) (c : CacheSlot) : (s.setSlot i c).pu = s.pu := rfl
@[simp] theorem setSlot_ports (s : State) (i : SlotNo) (c : CacheSlot) : (s.setSlot i c).ports = s.ports := rfl
@[simp] theorem setSlot_ust (s : State) (i : SlotNo) (c : CacheSlot) : (s.setSlot i c).ust = s.ust := rfl
@[simp] theorem setSlot_iqe (s : State) (i : SlotNo) (c : CacheSlot) : (s.setSlot i c).iqe = s.iqe := rfl
@[simp] theorem setSlot_ts (s : State) (i : SlotNo) (c : CacheSlot) : (s.setSlot i c).ts = s.ts := rfl
@[simp] theorem setSlot_frf (s : State) (i : SlotNo) (c : CacheSlot) : (s.setSlot i c).frf = s.frf := rfl
@[simp] theorem setSlot_pm (s : State) (i : SlotNo) (c : CacheSlot) : (s.setSlot i c).pm = s.pm := rfl
@[simp] theorem setSlot_es (s : State) (i : SlotNo) (c : CacheSlot) : (s.setSlot i c).es = s.es := rfl
@[simp] theorem setSlot_mu (s : State) (i : SlotNo) (c : CacheSlot) : (s.setSlot i c).mu = s.mu := rfl
@[simp] theorem setSlot_sul (s : State) (i : SlotNo) (c : CacheSlot) : (s.setSlot i c).sul = s.sul := rfl

@[simp] theorem setRecency_pending (s : State) (l : List SlotNo) : (s.setRecency l).pending = s.pending := rfl
@[simp] theorem setRecency_powered (s : State) (l : List SlotNo) : (s.setRecency l).powered = s.powered := rfl
@[simp] theorem setRecency_powerLosses (s : State) (l : List SlotNo) : (s.setRecency l).powerLosses = s.powerLosses := rfl
@[simp] theorem setRecency_tp (s : State) (l : List SlotNo) : (s.setRecency l).tp = s.tp := rfl
@[simp] theorem setRecency_dsp (s : State) (l : List SlotNo) : (s.setRecency l).dsp = s.dsp := rfl
@[simp] theorem setRecency_pu (s : State) (l : List SlotNo) : (s.setRecency l).pu = s.pu := rfl
@[simp] theorem setRecency_ports (s : State) (l : List SlotNo) : (s.setRecency l).ports = s.ports := rfl
@[simp] theorem setRecency_ust (s : State) (l : List SlotNo) : (s.setRecency l).ust = s.ust := rfl
@[simp] theorem setRecency_iqe (s : State) (l : List SlotNo) : (s.setRecency l).iqe = s.iqe := rfl
@[simp] theorem setRecency_ts (s : State) (l : List SlotNo) : (s.setRecency l).ts = s.ts := rfl
@[simp] theorem setRecency_frf (s : State) (l : List SlotNo) : (s.setRecency l).frf = s.frf := rfl
@[simp] theorem setRecency_pm (s : State) (l : List SlotNo) : (s.setRecency l).pm = s.pm := rfl
@[simp] theorem setRecency_es (s : State) (l : List SlotNo) : (s.setRecency l).es = s.es := rfl
@[simp] theorem setRecency_mu (s : State) (l : List SlotNo) : (s.setRecency l).mu = s.mu := rfl
@[simp] theorem setRecency_sul (s : State) (l : List SlotNo) : (s.setRecency l).sul = s.sul := rfl

@[simp] theorem setPort_pending (s : State) (b : Branch) (p : BranchPort) : (s.setPort b p).pending = s.pending := rfl
@[simp] theorem setPort_powered (s : State) (b : Branch) (p : BranchPort) : (s.setPort b p).powered = s.powered := rfl
@[simp] theorem setPort_powerLosses (s : State) (b : Branch) (p : BranchPort) : (s.setPort b p).powerLosses = s.powerLosses := rfl
@[simp] theorem setPort_tp (s : State) (b : Branch) (p : BranchPort) : (s.setPort b p).tp = s.tp := rfl
@[simp] theorem setPort_dsp (s : State) (b : Branch) (p : BranchPort) : (s.setPort b p).dsp = s.dsp := rfl
@[simp] theorem setPort_rc (s : State) (b : Branch) (p : BranchPort) : (s.setPort b p).rc = s.rc := rfl
@[simp] theorem setPort_pu (s : State) (b : Branch) (p : BranchPort) : (s.setPort b p).pu = s.pu := rfl
@[simp] theorem setPort_ust (s : State) (b : Branch) (p : BranchPort) : (s.setPort b p).ust = s.ust := rfl
@[simp] theorem setPort_iqe (s : State) (b : Branch) (p : BranchPort) : (s.setPort b p).iqe = s.iqe := rfl
@[simp] theorem setPort_ts (s : State) (b : Branch) (p : BranchPort) : (s.setPort b p).ts = s.ts := rfl
@[simp] theorem setPort_frf (s : State) (b : Branch) (p : BranchPort) : (s.setPort b p).frf = s.frf := rfl
@[simp] theorem setPort_pm (s : State) (b : Branch) (p : BranchPort) : (s.setPort b p).pm = s.pm := rfl
@[simp] theorem setPort_es (s : State) (b : Branch) (p : BranchPort) : (s.setPort b p).es = s.es := rfl
@[simp] theorem setPort_mu (s : State) (b : Branch) (p : BranchPort) : (s.setPort b p).mu = s.mu := rfl
@[simp] theorem setPort_sul (s : State) (b : Branch) (p : BranchPort) : (s.setPort b p).sul = s.sul := rfl

@[simp] theorem withPending_powered (s : State) (cs : List Instr) : (s.withPending cs).powered = s.powered := rfl
@[simp] theorem withPending_powerLosses (s : State) (cs : List Instr) : (s.withPending cs).powerLosses = s.powerLosses := rfl
@[simp] theorem withPending_tp (s : State) (cs : List Instr) : (s.withPending cs).tp = s.tp := rfl
@[simp] theorem withPending_dsp (s : State) (cs : List Instr) : (s.withPending cs).dsp = s.dsp := rfl
@[simp] theorem withPending_rc (s : State) (cs : List Instr) : (s.withPending cs).rc = s.rc := rfl
@[simp] theorem withPending_pu (s : State) (cs : List Instr) : (s.withPending cs).pu = s.pu := rfl
@[simp] theorem withPending_ports (s : State) (cs : List Instr) : (s.withPending cs).ports = s.ports := rfl
@[simp] theorem withPending_ust (s : State) (cs : List Instr) : (s.withPending cs).ust = s.ust := rfl
@[simp] theorem withPending_iqe (s : State) (cs : List Instr) : (s.withPending cs).iqe = s.iqe := rfl
@[simp] theorem withPending_ts (s : State) (cs : List Instr) : (s.withPending cs).ts = s.ts := rfl
@[simp] theorem withPending_frf (s : State) (cs : List Instr) : (s.withPending cs).frf = s.frf := rfl
@[simp] theorem withPending_pm (s : State) (cs : List Instr) : (s.withPending cs).pm = s.pm := rfl
@[simp] theorem withPending_es (s : State) (cs : List Instr) : (s.withPending cs).es = s.es := rfl
@[simp] theorem withPending_mu (s : State) (cs : List Instr) : (s.withPending cs).mu = s.mu := rfl
@[simp] theorem withPending_sul (s : State) (cs : List Instr) : (s.withPending cs).sul = s.sul := rfl

@[simp] theorem count_pending (s : State) (c : Counter) : (count c s).pending = s.pending := rfl
@[simp] theorem count_powered (s : State) (c : Counter) : (count c s).powered = s.powered := rfl
@[simp] theorem count_powerLosses (s : State) (c : Counter) : (count c s).powerLosses = s.powerLosses := rfl
@[simp] theorem count_tp (s : State) (c : Counter) : (count c s).tp = s.tp := rfl
@[simp] theorem count_dsp (s : State) (c : Counter) : (count c s).dsp = s.dsp := rfl
@[simp] theorem count_rc (s : State) (c : Counter) : (count c s).rc = s.rc := rfl
@[simp] theorem count_pu (s : State) (c : Counter) : (count c s).pu = s.pu := rfl
@[simp] theorem count_ports (s : State) (c : Counter) : (count c s).ports = s.ports := rfl
@[simp] theorem count_ust (s : State) (c : Counter) : (count c s).ust = s.ust := rfl
@[simp] theorem count_iqe (s : State) (c : Counter) : (count c s).iqe = s.iqe := rfl
@[simp] theorem count_ts (s : State) (c : Counter) : (count c s).ts = s.ts := rfl
@[simp] theorem count_frf (s : State) (c : Counter) : (count c s).frf = s.frf := rfl
@[simp] theorem count_mu (s : State) (c : Counter) : (count c s).mu = s.mu := rfl
@[simp] theorem count_sul (s : State) (c : Counter) : (count c s).sul = s.sul := rfl

@[simp] theorem recordFault_pending (s : State) (r : FaultRecord) : (recordFault r s).pending = s.pending := rfl
@[simp] theorem recordFault_powered (s : State) (r : FaultRecord) : (recordFault r s).powered = s.powered := rfl
@[simp] theorem recordFault_powerLosses (s : State) (r : FaultRecord) : (recordFault r s).powerLosses = s.powerLosses := rfl
@[simp] theorem recordFault_tp (s : State) (r : FaultRecord) : (recordFault r s).tp = s.tp := rfl
@[simp] theorem recordFault_dsp (s : State) (r : FaultRecord) : (recordFault r s).dsp = s.dsp := rfl
@[simp] theorem recordFault_rc (s : State) (r : FaultRecord) : (recordFault r s).rc = s.rc := rfl
@[simp] theorem recordFault_pu (s : State) (r : FaultRecord) : (recordFault r s).pu = s.pu := rfl
@[simp] theorem recordFault_ports (s : State) (r : FaultRecord) : (recordFault r s).ports = s.ports := rfl
@[simp] theorem recordFault_ust (s : State) (r : FaultRecord) : (recordFault r s).ust = s.ust := rfl
@[simp] theorem recordFault_iqe (s : State) (r : FaultRecord) : (recordFault r s).iqe = s.iqe := rfl
@[simp] theorem recordFault_ts (s : State) (r : FaultRecord) : (recordFault r s).ts = s.ts := rfl
@[simp] theorem recordFault_pm (s : State) (r : FaultRecord) : (recordFault r s).pm = s.pm := rfl
@[simp] theorem recordFault_es (s : State) (r : FaultRecord) : (recordFault r s).es = s.es := rfl
@[simp] theorem recordFault_mu (s : State) (r : FaultRecord) : (recordFault r s).mu = s.mu := rfl
@[simp] theorem recordFault_sul (s : State) (r : FaultRecord) : (recordFault r s).sul = s.sul := rfl

@[simp] theorem appendReply_pending (s : State) (r : Response) : (appendReply r s).pending = s.pending := rfl
@[simp] theorem appendReply_powered (s : State) (r : Response) : (appendReply r s).powered = s.powered := rfl
@[simp] theorem appendReply_powerLosses (s : State) (r : Response) : (appendReply r s).powerLosses = s.powerLosses := rfl
@[simp] theorem appendReply_dsp (s : State) (r : Response) : (appendReply r s).dsp = s.dsp := rfl
@[simp] theorem appendReply_rc (s : State) (r : Response) : (appendReply r s).rc = s.rc := rfl
@[simp] theorem appendReply_pu (s : State) (r : Response) : (appendReply r s).pu = s.pu := rfl
@[simp] theorem appendReply_ports (s : State) (r : Response) : (appendReply r s).ports = s.ports := rfl
@[simp] theorem appendReply_ust (s : State) (r : Response) : (appendReply r s).ust = s.ust := rfl
@[simp] theorem appendReply_iqe (s : State) (r : Response) : (appendReply r s).iqe = s.iqe := rfl
@[simp] theorem appendReply_ts (s : State) (r : Response) : (appendReply r s).ts = s.ts := rfl
@[simp] theorem appendReply_frf (s : State) (r : Response) : (appendReply r s).frf = s.frf := rfl
@[simp] theorem appendReply_pm (s : State) (r : Response) : (appendReply r s).pm = s.pm := rfl
@[simp] theorem appendReply_es (s : State) (r : Response) : (appendReply r s).es = s.es := rfl
@[simp] theorem appendReply_mu (s : State) (r : Response) : (appendReply r s).mu = s.mu := rfl
@[simp] theorem appendReply_sul (s : State) (r : Response) : (appendReply r s).sul = s.sul := rfl

@[simp] theorem dropManagementHead_pending (s : State) : (dropManagementHead s).pending = s.pending := rfl
@[simp] theorem dropManagementHead_powered (s : State) : (dropManagementHead s).powered = s.powered := rfl
@[simp] theorem dropManagementHead_powerLosses (s : State) : (dropManagementHead s).powerLosses = s.powerLosses := rfl
@[simp] theorem dropManagementHead_tp (s : State) : (dropManagementHead s).tp = s.tp := rfl
@[simp] theorem dropManagementHead_dsp (s : State) : (dropManagementHead s).dsp = s.dsp := rfl
@[simp] theorem dropManagementHead_rc (s : State) : (dropManagementHead s).rc = s.rc := rfl
@[simp] theorem dropManagementHead_pu (s : State) : (dropManagementHead s).pu = s.pu := rfl
@[simp] theorem dropManagementHead_ports (s : State) : (dropManagementHead s).ports = s.ports := rfl
@[simp] theorem dropManagementHead_ust (s : State) : (dropManagementHead s).ust = s.ust := rfl
@[simp] theorem dropManagementHead_iqe (s : State) : (dropManagementHead s).iqe = s.iqe := rfl
@[simp] theorem dropManagementHead_ts (s : State) : (dropManagementHead s).ts = s.ts := rfl
@[simp] theorem dropManagementHead_frf (s : State) : (dropManagementHead s).frf = s.frf := rfl
@[simp] theorem dropManagementHead_pm (s : State) : (dropManagementHead s).pm = s.pm := rfl
@[simp] theorem dropManagementHead_es (s : State) : (dropManagementHead s).es = s.es := rfl
@[simp] theorem dropManagementHead_sul (s : State) : (dropManagementHead s).sul = s.sul := rfl

@[simp] theorem freePort_pending (s : State) : (freePort s).pending = s.pending := rfl
@[simp] theorem freePort_powered (s : State) : (freePort s).powered = s.powered := rfl
@[simp] theorem freePort_powerLosses (s : State) : (freePort s).powerLosses = s.powerLosses := rfl
@[simp] theorem freePort_tp (s : State) : (freePort s).tp = s.tp := rfl
@[simp] theorem freePort_dsp (s : State) : (freePort s).dsp = s.dsp := rfl
@[simp] theorem freePort_rc (s : State) : (freePort s).rc = s.rc := rfl
@[simp] theorem freePort_pu (s : State) : (freePort s).pu = s.pu := rfl
@[simp] theorem freePort_ports (s : State) : (freePort s).ports = s.ports := rfl
@[simp] theorem freePort_ust (s : State) : (freePort s).ust = s.ust := rfl
@[simp] theorem freePort_iqe (s : State) : (freePort s).iqe = s.iqe := rfl
@[simp] theorem freePort_frf (s : State) : (freePort s).frf = s.frf := rfl
@[simp] theorem freePort_pm (s : State) : (freePort s).pm = s.pm := rfl
@[simp] theorem freePort_es (s : State) : (freePort s).es = s.es := rfl
@[simp] theorem freePort_mu (s : State) : (freePort s).mu = s.mu := rfl
@[simp] theorem freePort_sul (s : State) : (freePort s).sul = s.sul := rfl

@[simp] theorem withdrawFill_pending (s : State) (i : SlotNo) : (withdrawFill i s).pending = s.pending := rfl
@[simp] theorem withdrawFill_powered (s : State) (i : SlotNo) : (withdrawFill i s).powered = s.powered := rfl
@[simp] theorem withdrawFill_powerLosses (s : State) (i : SlotNo) : (withdrawFill i s).powerLosses = s.powerLosses := rfl
@[simp] theorem withdrawFill_tp (s : State) (i : SlotNo) : (withdrawFill i s).tp = s.tp := rfl
@[simp] theorem withdrawFill_dsp (s : State) (i : SlotNo) : (withdrawFill i s).dsp = s.dsp := rfl
@[simp] theorem withdrawFill_rc (s : State) (i : SlotNo) : (withdrawFill i s).rc = s.rc := rfl
@[simp] theorem withdrawFill_pu (s : State) (i : SlotNo) : (withdrawFill i s).pu = s.pu := rfl
@[simp] theorem withdrawFill_ports (s : State) (i : SlotNo) : (withdrawFill i s).ports = s.ports := rfl
@[simp] theorem withdrawFill_ust (s : State) (i : SlotNo) : (withdrawFill i s).ust = s.ust := rfl
@[simp] theorem withdrawFill_iqe (s : State) (i : SlotNo) : (withdrawFill i s).iqe = s.iqe := rfl
@[simp] theorem withdrawFill_frf (s : State) (i : SlotNo) : (withdrawFill i s).frf = s.frf := rfl
@[simp] theorem withdrawFill_pm (s : State) (i : SlotNo) : (withdrawFill i s).pm = s.pm := rfl
@[simp] theorem withdrawFill_es (s : State) (i : SlotNo) : (withdrawFill i s).es = s.es := rfl
@[simp] theorem withdrawFill_mu (s : State) (i : SlotNo) : (withdrawFill i s).mu = s.mu := rfl
@[simp] theorem withdrawFill_sul (s : State) (i : SlotNo) : (withdrawFill i s).sul = s.sul := rfl

@[simp] theorem beginRead_pending (s : State) (r : Reader) (a n : Nat) : (beginRead r a n s).pending = s.pending := rfl
@[simp] theorem beginRead_powered (s : State) (r : Reader) (a n : Nat) : (beginRead r a n s).powered = s.powered := rfl
@[simp] theorem beginRead_powerLosses (s : State) (r : Reader) (a n : Nat) : (beginRead r a n s).powerLosses = s.powerLosses := rfl
@[simp] theorem beginRead_tp (s : State) (r : Reader) (a n : Nat) : (beginRead r a n s).tp = s.tp := rfl
@[simp] theorem beginRead_dsp (s : State) (r : Reader) (a n : Nat) : (beginRead r a n s).dsp = s.dsp := rfl
@[simp] theorem beginRead_rc (s : State) (r : Reader) (a n : Nat) : (beginRead r a n s).rc = s.rc := rfl
@[simp] theorem beginRead_pu (s : State) (r : Reader) (a n : Nat) : (beginRead r a n s).pu = s.pu := rfl
@[simp] theorem beginRead_ports (s : State) (r : Reader) (a n : Nat) : (beginRead r a n s).ports = s.ports := rfl
@[simp] theorem beginRead_ust (s : State) (r : Reader) (a n : Nat) : (beginRead r a n s).ust = s.ust := rfl
@[simp] theorem beginRead_iqe (s : State) (r : Reader) (a n : Nat) : (beginRead r a n s).iqe = s.iqe := rfl
@[simp] theorem beginRead_frf (s : State) (r : Reader) (a n : Nat) : (beginRead r a n s).frf = s.frf := rfl
@[simp] theorem beginRead_pm (s : State) (r : Reader) (a n : Nat) : (beginRead r a n s).pm = s.pm := rfl
@[simp] theorem beginRead_es (s : State) (r : Reader) (a n : Nat) : (beginRead r a n s).es = s.es := rfl
@[simp] theorem beginRead_mu (s : State) (r : Reader) (a n : Nat) : (beginRead r a n s).mu = s.mu := rfl
@[simp] theorem beginRead_sul (s : State) (r : Reader) (a n : Nat) : (beginRead r a n s).sul = s.sul := rfl

@[simp] theorem setTag_slot (s : State) (t : Tag) (r : TagRecord) (j : SlotNo): (s.setTag t r).slot j = s.slot j := rfl
@[simp] theorem setTag_port (s : State) (t : Tag) (r : TagRecord) (d : Branch): (s.setTag t r).port d = s.port d := rfl
@[simp] theorem setTag_config (s : State) (t : Tag) (r : TagRecord) : (s.setTag t r).config = s.config := rfl
@[simp] theorem setSlot_tag (s : State) (i : SlotNo) (c : CacheSlot) (u : Tag): (s.setSlot i c).tag u = s.tag u := rfl
@[simp] theorem setSlot_port (s : State) (i : SlotNo) (c : CacheSlot) (d : Branch): (s.setSlot i c).port d = s.port d := rfl
@[simp] theorem setSlot_config (s : State) (i : SlotNo) (c : CacheSlot) : (s.setSlot i c).config = s.config := rfl
@[simp] theorem setRecency_tag (s : State) (l : List SlotNo) (u : Tag): (s.setRecency l).tag u = s.tag u := rfl
@[simp] theorem setRecency_port (s : State) (l : List SlotNo) (d : Branch): (s.setRecency l).port d = s.port d := rfl
@[simp] theorem setRecency_config (s : State) (l : List SlotNo) : (s.setRecency l).config = s.config := rfl
@[simp] theorem setPort_tag (s : State) (b : Branch) (p : BranchPort) (u : Tag): (s.setPort b p).tag u = s.tag u := rfl
@[simp] theorem setPort_slot (s : State) (b : Branch) (p : BranchPort) (j : SlotNo): (s.setPort b p).slot j = s.slot j := rfl
@[simp] theorem setPort_config (s : State) (b : Branch) (p : BranchPort) : (s.setPort b p).config = s.config := rfl
@[simp] theorem withPending_tag (s : State) (cs : List Instr) (u : Tag): (s.withPending cs).tag u = s.tag u := rfl
@[simp] theorem withPending_slot (s : State) (cs : List Instr) (j : SlotNo): (s.withPending cs).slot j = s.slot j := rfl
@[simp] theorem withPending_port (s : State) (cs : List Instr) (d : Branch): (s.withPending cs).port d = s.port d := rfl
@[simp] theorem withPending_config (s : State) (cs : List Instr) : (s.withPending cs).config = s.config := rfl
@[simp] theorem count_tag (s : State) (c : Counter) (u : Tag): (count c s).tag u = s.tag u := rfl
@[simp] theorem count_slot (s : State) (c : Counter) (j : SlotNo): (count c s).slot j = s.slot j := rfl
@[simp] theorem count_port (s : State) (c : Counter) (d : Branch): (count c s).port d = s.port d := rfl
@[simp] theorem count_config (s : State) (c : Counter) : (count c s).config = s.config := rfl
@[simp] theorem recordFault_tag (s : State) (r : FaultRecord) (u : Tag): (recordFault r s).tag u = s.tag u := rfl
@[simp] theorem recordFault_slot (s : State) (r : FaultRecord) (j : SlotNo): (recordFault r s).slot j = s.slot j := rfl
@[simp] theorem recordFault_port (s : State) (r : FaultRecord) (d : Branch): (recordFault r s).port d = s.port d := rfl
@[simp] theorem recordFault_config (s : State) (r : FaultRecord) : (recordFault r s).config = s.config := rfl
@[simp] theorem appendReply_tag (s : State) (r : Response) (u : Tag): (appendReply r s).tag u = s.tag u := rfl
@[simp] theorem appendReply_slot (s : State) (r : Response) (j : SlotNo): (appendReply r s).slot j = s.slot j := rfl
@[simp] theorem appendReply_port (s : State) (r : Response) (d : Branch): (appendReply r s).port d = s.port d := rfl
@[simp] theorem appendReply_config (s : State) (r : Response) : (appendReply r s).config = s.config := rfl
@[simp] theorem dropManagementHead_tag (s : State) (u : Tag): (dropManagementHead s).tag u = s.tag u := rfl
@[simp] theorem dropManagementHead_slot (s : State) (j : SlotNo): (dropManagementHead s).slot j = s.slot j := rfl
@[simp] theorem dropManagementHead_port (s : State) (d : Branch): (dropManagementHead s).port d = s.port d := rfl
@[simp] theorem dropManagementHead_config (s : State) : (dropManagementHead s).config = s.config := rfl
@[simp] theorem freePort_tag (s : State) (u : Tag): (freePort s).tag u = s.tag u := rfl
@[simp] theorem freePort_slot (s : State) (j : SlotNo): (freePort s).slot j = s.slot j := rfl
@[simp] theorem freePort_port (s : State) (d : Branch): (freePort s).port d = s.port d := rfl
@[simp] theorem freePort_config (s : State) : (freePort s).config = s.config := rfl
@[simp] theorem withdrawFill_tag (s : State) (i : SlotNo) (u : Tag): (withdrawFill i s).tag u = s.tag u := rfl
@[simp] theorem withdrawFill_slot (s : State) (i : SlotNo) (j : SlotNo): (withdrawFill i s).slot j = s.slot j := rfl
@[simp] theorem withdrawFill_port (s : State) (i : SlotNo) (d : Branch): (withdrawFill i s).port d = s.port d := rfl
@[simp] theorem withdrawFill_config (s : State) (i : SlotNo) : (withdrawFill i s).config = s.config := rfl
@[simp] theorem beginRead_tag (s : State) (r : Reader) (a n : Nat) (u : Tag): (beginRead r a n s).tag u = s.tag u := rfl
@[simp] theorem beginRead_slot (s : State) (r : Reader) (a n : Nat) (j : SlotNo): (beginRead r a n s).slot j = s.slot j := rfl
@[simp] theorem beginRead_port (s : State) (r : Reader) (a n : Nat) (d : Branch): (beginRead r a n s).port d = s.port d := rfl
@[simp] theorem beginRead_config (s : State) (r : Reader) (a n : Nat) : (beginRead r a n s).config = s.config := rfl

/-! ## Accessors after their own updates -/

theorem tag_setTag (s : State) (t u : Tag) (r : TagRecord) : (s.setTag t r).tag u = if u = t then r else s.tag u := by
  simp only [State.tag, State.setTag, Vector.getElem_set, Fin.ext_iff, eq_comm]

@[simp] theorem tag_setTag_self (s : State) (t : Tag) (r : TagRecord) : (s.setTag t r).tag t = r := by
  simp [tag_setTag]

theorem tag_setTag_ne (s : State) {t u : Tag} (r : TagRecord) (h : u ≠ t) : (s.setTag t r).tag u = s.tag u := by
  simp [tag_setTag, h]

theorem slot_setSlot (s : State) (i j : SlotNo) (c : CacheSlot) :
    (s.setSlot i c).slot j = if j = i then c else s.slot j := by
  simp only [State.slot, State.setSlot, Vector.getElem_set, Fin.ext_iff, eq_comm]

@[simp] theorem slot_setSlot_self (s : State) (i : SlotNo) (c : CacheSlot) : (s.setSlot i c).slot i = c := by
  simp [slot_setSlot]

theorem slot_setSlot_ne (s : State) {i j : SlotNo} (c : CacheSlot) (h : j ≠ i) : (s.setSlot i c).slot j = s.slot j := by
  simp [slot_setSlot, h]

@[simp] theorem slot_setRecency (s : State) (l : List SlotNo) (j : SlotNo) : (s.setRecency l).slot j = s.slot j := rfl

@[simp] theorem recency_setSlot (s : State) (i : SlotNo) (c : CacheSlot) :
    (s.setSlot i c).rc.recency = s.rc.recency := rfl

@[simp] theorem recency_setRecency (s : State) (l : List SlotNo) : (s.setRecency l).rc.recency = l := rfl

theorem port_setPort (s : State) (b d : Branch) (p : BranchPort) :
    (s.setPort b p).port d = if d = b then p else s.port d := by
  simp only [State.port, State.setPort, Vector.getElem_set, Fin.ext_iff, eq_comm]

@[simp] theorem port_setPort_self (s : State) (b : Branch) (p : BranchPort) : (s.setPort b p).port b = p := by
  simp [port_setPort]

theorem port_setPort_ne (s : State) {b d : Branch} (p : BranchPort) (h : d ≠ b) :
    (s.setPort b p).port d = s.port d := by
  simp [port_setPort, h]

@[simp] theorem nextSeq_setTag (s : State) (t : Tag) (r : TagRecord) : (s.setTag t r).dsp.nextSeq = s.dsp.nextSeq := rfl

@[simp] theorem replies_appendReply (s : State) (r : Response) :
    (appendReply r s).tp.replies = s.tp.replies ++ [r] := rfl

@[simp] theorem intake_appendReply (s : State) (r : Response) : (appendReply r s).tp.intake = s.tp.intake := rfl

@[simp] theorem mu_dropManagementHead (s : State) :
    (dropManagementHead s).mu = { s.mu with queue := s.mu.queue.tail } := rfl

@[simp] theorem frf_recordFault (s : State) (r : FaultRecord) : (recordFault r s).frf = s.frf.report r := rfl

@[simp] theorem pm_count (s : State) (c : Counter) : (count c s).pm = s.pm.advance c := rfl

@[simp] theorem pending_withPending (s : State) (cs : List Instr) : (s.withPending cs).pending = cs := rfl

@[simp] theorem withPending_withPending (s : State) (cs ds : List Instr) :
    (s.withPending cs).withPending ds = s.withPending ds := rfl

@[simp] theorem withPending_self (s : State) : s.withPending s.pending = s := rfl

end Sys2Proof.Machine
end

