-- ==== Sys2Proof/Laws/Frames.lean ====
section
/-!
SUPPORT. The frame of each shared operation: one lemma for every block it leaves as it was, so that a statement about one block passes over every operation of the others.
-/

namespace Sys2Proof.Machine

/-- A projection that every step of a fold keeps is kept by the fold. -/
theorem foldl_keeps {σ α β : Type} (f : σ → α → σ) (π : σ → β) (h : ∀ s x, π (f s x) = π s) (l : List α) (s : σ) :
    π (l.foldl f s) = π s := by
  induction l generalizing s with
  | nil => rfl
  | cons x l ih => rw [List.foldl_cons, ih, h]

/-- A property that every step of a fold keeps is kept by the fold. -/
theorem foldl_invariant {σ α : Type} (f : σ → α → σ) (P : σ → Prop) (h : ∀ s x, P s → P (f s x)) (l : List α) (s : σ)
    (hs : P s) : P (l.foldl f s) := by
  induction l generalizing s with
  | nil => exact hs
  | cons x l ih => exact ih _ (h _ _ hs)

@[simp] theorem statusUpdate_frame (t : Tag) (o : OutcomeCode) (st : Option Byte) (w : Bool) (s : State) :
    (statusUpdate t o st w s).pending = s.pending ∧ (statusUpdate t o st w s).powered = s.powered ∧
    (statusUpdate t o st w s).powerLosses = s.powerLosses ∧ (statusUpdate t o st w s).tp = s.tp ∧
    (statusUpdate t o st w s).dsp = s.dsp ∧ (statusUpdate t o st w s).rc = s.rc ∧
    (statusUpdate t o st w s).pu = s.pu ∧ (statusUpdate t o st w s).ports = s.ports ∧
    (statusUpdate t o st w s).iqe = s.iqe ∧ (statusUpdate t o st w s).ts = s.ts ∧
    (statusUpdate t o st w s).frf = s.frf ∧ (statusUpdate t o st w s).pm = s.pm ∧
    (statusUpdate t o st w s).es = s.es ∧ (statusUpdate t o st w s).mu = s.mu ∧
    (statusUpdate t o st w s).sul = s.sul := by
  unfold statusUpdate; split <;> simp

@[simp] theorem endTransaction_frame (t : Tag) (o : OutcomeCode) (st : Option Byte) (w : Bool) (p : List Byte) (s : State) :
    (endTransaction t o st w p s).pending = s.pending ∧ (endTransaction t o st w p s).powered = s.powered ∧
    (endTransaction t o st w p s).powerLosses = s.powerLosses ∧ (endTransaction t o st w p s).rc = s.rc ∧
    (endTransaction t o st w p s).pu = s.pu ∧ (endTransaction t o st w p s).ports = s.ports ∧
    (endTransaction t o st w p s).iqe = s.iqe ∧ (endTransaction t o st w p s).ts = s.ts ∧
    (endTransaction t o st w p s).frf = s.frf ∧ (endTransaction t o st w p s).pm = s.pm ∧
    (endTransaction t o st w p s).es = s.es ∧ (endTransaction t o st w p s).mu = s.mu ∧
    (endTransaction t o st w p s).sul = s.sul := by
  simp [endTransaction]

@[simp] theorem endPlain_frame (t : Tag) (o : OutcomeCode) (s : State) :
    (endPlain t o s).pending = s.pending ∧ (endPlain t o s).powered = s.powered ∧
    (endPlain t o s).powerLosses = s.powerLosses ∧ (endPlain t o s).rc = s.rc ∧ (endPlain t o s).pu = s.pu ∧
    (endPlain t o s).ports = s.ports ∧ (endPlain t o s).iqe = s.iqe ∧ (endPlain t o s).ts = s.ts ∧
    (endPlain t o s).frf = s.frf ∧ (endPlain t o s).pm = s.pm ∧ (endPlain t o s).es = s.es ∧
    (endPlain t o s).mu = s.mu ∧ (endPlain t o s).sul = s.sul := by
  simp [endPlain]

@[simp] theorem reply_frame (t : Tag) (c : ResultCode) (d : List Byte) (s : State) :
    (reply t c d s).pending = s.pending ∧ (reply t c d s).powered = s.powered ∧
    (reply t c d s).powerLosses = s.powerLosses ∧ (reply t c d s).rc = s.rc ∧ (reply t c d s).pu = s.pu ∧
    (reply t c d s).ports = s.ports ∧ (reply t c d s).iqe = s.iqe ∧ (reply t c d s).ts = s.ts ∧
    (reply t c d s).frf = s.frf ∧ (reply t c d s).pm = s.pm ∧ (reply t c d s).es = s.es ∧
    (reply t c d s).sul = s.sul := by
  simp [reply]

@[simp] theorem touch_frame (i : SlotNo) (s : State) :
    (touch i s).pending = s.pending ∧ (touch i s).powered = s.powered ∧ (touch i s).powerLosses = s.powerLosses ∧
    (touch i s).tp = s.tp ∧ (touch i s).dsp = s.dsp ∧ (touch i s).pu = s.pu ∧ (touch i s).ports = s.ports ∧
    (touch i s).ust = s.ust ∧ (touch i s).iqe = s.iqe ∧ (touch i s).ts = s.ts ∧ (touch i s).frf = s.frf ∧
    (touch i s).pm = s.pm ∧ (touch i s).es = s.es ∧ (touch i s).mu = s.mu ∧ (touch i s).sul = s.sul := by
  simp [touch]

@[simp] theorem leaveRecency_frame (i : SlotNo) (s : State) :
    (leaveRecency i s).pending = s.pending ∧ (leaveRecency i s).powered = s.powered ∧
    (leaveRecency i s).powerLosses = s.powerLosses ∧ (leaveRecency i s).tp = s.tp ∧ (leaveRecency i s).dsp = s.dsp ∧
    (leaveRecency i s).pu = s.pu ∧ (leaveRecency i s).ports = s.ports ∧ (leaveRecency i s).ust = s.ust ∧
    (leaveRecency i s).iqe = s.iqe ∧ (leaveRecency i s).ts = s.ts ∧ (leaveRecency i s).frf = s.frf ∧
    (leaveRecency i s).pm = s.pm ∧ (leaveRecency i s).es = s.es ∧ (leaveRecency i s).mu = s.mu ∧
    (leaveRecency i s).sul = s.sul := by
  simp [leaveRecency]

@[simp] theorem latchFenceNotify_frame (b : Bool) (s : State) :
    (latchFenceNotify b s).pending = s.pending ∧ (latchFenceNotify b s).powered = s.powered ∧
    (latchFenceNotify b s).powerLosses = s.powerLosses ∧ (latchFenceNotify b s).tp = s.tp ∧
    (latchFenceNotify b s).dsp = s.dsp ∧ (latchFenceNotify b s).rc = s.rc ∧ (latchFenceNotify b s).pu = s.pu ∧
    (latchFenceNotify b s).ports = s.ports ∧ (latchFenceNotify b s).ust = s.ust ∧
    (latchFenceNotify b s).iqe = s.iqe ∧ (latchFenceNotify b s).ts = s.ts ∧ (latchFenceNotify b s).frf = s.frf ∧
    (latchFenceNotify b s).pm = s.pm ∧ (latchFenceNotify b s).mu = s.mu ∧ (latchFenceNotify b s).sul = s.sul := by
  simp [latchFenceNotify]

@[simp] theorem latchStoreDone_frame (s : State) :
    (latchStoreDone s).pending = s.pending ∧ (latchStoreDone s).powered = s.powered ∧
    (latchStoreDone s).powerLosses = s.powerLosses ∧ (latchStoreDone s).tp = s.tp ∧ (latchStoreDone s).dsp = s.dsp ∧
    (latchStoreDone s).rc = s.rc ∧ (latchStoreDone s).pu = s.pu ∧ (latchStoreDone s).ports = s.ports ∧
    (latchStoreDone s).ust = s.ust ∧ (latchStoreDone s).iqe = s.iqe ∧ (latchStoreDone s).ts = s.ts ∧
    (latchStoreDone s).frf = s.frf ∧ (latchStoreDone s).pm = s.pm ∧ (latchStoreDone s).mu = s.mu ∧
    (latchStoreDone s).sul = s.sul := by
  simp [latchStoreDone]

@[simp] theorem latchPortShut_frame (s : State) :
    (latchPortShut s).pending = s.pending ∧ (latchPortShut s).powered = s.powered ∧
    (latchPortShut s).powerLosses = s.powerLosses ∧ (latchPortShut s).tp = s.tp ∧ (latchPortShut s).dsp = s.dsp ∧
    (latchPortShut s).rc = s.rc ∧ (latchPortShut s).pu = s.pu ∧ (latchPortShut s).ports = s.ports ∧
    (latchPortShut s).ust = s.ust ∧ (latchPortShut s).iqe = s.iqe ∧ (latchPortShut s).ts = s.ts ∧
    (latchPortShut s).frf = s.frf ∧ (latchPortShut s).pm = s.pm ∧ (latchPortShut s).mu = s.mu ∧
    (latchPortShut s).sul = s.sul := by
  simp [latchPortShut]

@[simp] theorem completeFence_frame (s : State) :
    (completeFence s).pending = s.pending ∧ (completeFence s).powered = s.powered ∧
    (completeFence s).powerLosses = s.powerLosses ∧ (completeFence s).tp = s.tp ∧ (completeFence s).dsp = s.dsp ∧
    (completeFence s).rc = s.rc ∧ (completeFence s).pu = s.pu ∧ (completeFence s).ports = s.ports ∧
    (completeFence s).ust = s.ust ∧ (completeFence s).ts = s.ts ∧ (completeFence s).frf = s.frf ∧
    (completeFence s).pm = s.pm ∧ (completeFence s).mu = s.mu ∧ (completeFence s).sul = s.sul := by
  unfold completeFence; split <;> simp

@[simp] theorem drainReport_frame (s : State) :
    (drainReport s).pending = s.pending ∧ (drainReport s).powered = s.powered ∧
    (drainReport s).powerLosses = s.powerLosses ∧ (drainReport s).tp = s.tp ∧ (drainReport s).dsp = s.dsp ∧
    (drainReport s).rc = s.rc ∧ (drainReport s).pu = s.pu ∧ (drainReport s).ports = s.ports ∧
    (drainReport s).ust = s.ust ∧ (drainReport s).ts = s.ts ∧ (drainReport s).frf = s.frf ∧
    (drainReport s).pm = s.pm ∧ (drainReport s).mu = s.mu ∧ (drainReport s).sul = s.sul := by
  unfold drainReport; split <;> simp

@[simp] theorem takeReference_frame (i : SlotNo) (s : State) :
    (takeReference i s).pending = s.pending ∧ (takeReference i s).powered = s.powered ∧
    (takeReference i s).powerLosses = s.powerLosses ∧ (takeReference i s).tp = s.tp ∧
    (takeReference i s).dsp = s.dsp ∧ (takeReference i s).pu = s.pu ∧ (takeReference i s).ports = s.ports ∧
    (takeReference i s).ust = s.ust ∧ (takeReference i s).iqe = s.iqe ∧ (takeReference i s).ts = s.ts ∧
    (takeReference i s).frf = s.frf ∧ (takeReference i s).pm = s.pm ∧ (takeReference i s).es = s.es ∧
    (takeReference i s).mu = s.mu ∧ (takeReference i s).sul = s.sul := by
  unfold takeReference; split <;> simp

@[simp] theorem releaseReference_frame (i : SlotNo) (s : State) :
    (releaseReference i s).pending = s.pending ∧ (releaseReference i s).powered = s.powered ∧
    (releaseReference i s).powerLosses = s.powerLosses ∧ (releaseReference i s).tp = s.tp ∧
    (releaseReference i s).dsp = s.dsp ∧ (releaseReference i s).pu = s.pu ∧ (releaseReference i s).ports = s.ports ∧
    (releaseReference i s).ust = s.ust ∧ (releaseReference i s).ts = s.ts ∧ (releaseReference i s).frf = s.frf ∧
    (releaseReference i s).pm = s.pm ∧ (releaseReference i s).mu = s.mu ∧ (releaseReference i s).sul = s.sul := by
  unfold releaseReference; repeat' split
  all_goals simp

@[simp] theorem releaseSlot_frame (o : Option SlotNo) (s : State) :
    (releaseSlot o s).pending = s.pending ∧ (releaseSlot o s).powered = s.powered ∧
    (releaseSlot o s).powerLosses = s.powerLosses ∧ (releaseSlot o s).tp = s.tp ∧ (releaseSlot o s).dsp = s.dsp ∧
    (releaseSlot o s).pu = s.pu ∧ (releaseSlot o s).ports = s.ports ∧ (releaseSlot o s).ust = s.ust ∧
    (releaseSlot o s).ts = s.ts ∧ (releaseSlot o s).frf = s.frf ∧ (releaseSlot o s).pm = s.pm ∧
    (releaseSlot o s).mu = s.mu ∧ (releaseSlot o s).sul = s.sul := by
  unfold releaseSlot; split <;> simp

@[simp] theorem invalidateSlot_frame (i : SlotNo) (s : State) :
    (invalidateSlot i s).pending = s.pending ∧ (invalidateSlot i s).powered = s.powered ∧
    (invalidateSlot i s).powerLosses = s.powerLosses ∧ (invalidateSlot i s).tp = s.tp ∧
    (invalidateSlot i s).dsp = s.dsp ∧ (invalidateSlot i s).pu = s.pu ∧ (invalidateSlot i s).ports = s.ports ∧
    (invalidateSlot i s).ust = s.ust ∧ (invalidateSlot i s).iqe = s.iqe ∧ (invalidateSlot i s).ts = s.ts ∧
    (invalidateSlot i s).frf = s.frf ∧ (invalidateSlot i s).pm = s.pm ∧ (invalidateSlot i s).es = s.es ∧
    (invalidateSlot i s).mu = s.mu ∧ (invalidateSlot i s).sul = s.sul := by
  unfold invalidateSlot; repeat' split
  all_goals simp

@[simp] theorem invalidateUnit_frame (u : Byte) (s : State) :
    (invalidateUnit u s).pending = s.pending ∧ (invalidateUnit u s).powered = s.powered ∧
    (invalidateUnit u s).powerLosses = s.powerLosses ∧ (invalidateUnit u s).tp = s.tp ∧
    (invalidateUnit u s).dsp = s.dsp ∧ (invalidateUnit u s).pu = s.pu ∧ (invalidateUnit u s).ports = s.ports ∧
    (invalidateUnit u s).ust = s.ust ∧ (invalidateUnit u s).iqe = s.iqe ∧ (invalidateUnit u s).ts = s.ts ∧
    (invalidateUnit u s).frf = s.frf ∧ (invalidateUnit u s).pm = s.pm ∧ (invalidateUnit u s).es = s.es ∧
    (invalidateUnit u s).mu = s.mu ∧ (invalidateUnit u s).sul = s.sul := by
  unfold invalidateUnit; split <;> simp

@[simp] theorem invalidateAll_frame (s : State) :
    (invalidateAll s).pending = s.pending ∧ (invalidateAll s).powered = s.powered ∧
    (invalidateAll s).powerLosses = s.powerLosses ∧ (invalidateAll s).tp = s.tp ∧ (invalidateAll s).dsp = s.dsp ∧
    (invalidateAll s).pu = s.pu ∧ (invalidateAll s).ports = s.ports ∧ (invalidateAll s).ust = s.ust ∧
    (invalidateAll s).iqe = s.iqe ∧ (invalidateAll s).ts = s.ts ∧ (invalidateAll s).frf = s.frf ∧
    (invalidateAll s).pm = s.pm ∧ (invalidateAll s).es = s.es ∧ (invalidateAll s).mu = s.mu ∧
    (invalidateAll s).sul = s.sul := by
  refine ⟨?_, ?_, ?_, ?_, ?_, ?_, ?_, ?_, ?_, ?_, ?_, ?_, ?_, ?_, ?_⟩
  · exact foldl_keeps _ State.pending (fun s i => by simp) _ _
  · exact foldl_keeps _ State.powered (fun s i => by simp) _ _
  · exact foldl_keeps _ State.powerLosses (fun s i => by simp) _ _
  · exact foldl_keeps _ State.tp (fun s i => by simp) _ _
  · exact foldl_keeps _ State.dsp (fun s i => by simp) _ _
  · exact foldl_keeps _ State.pu (fun s i => by simp) _ _
  · exact foldl_keeps _ State.ports (fun s i => by simp) _ _
  · exact foldl_keeps _ State.ust (fun s i => by simp) _ _
  · exact foldl_keeps _ State.iqe (fun s i => by simp) _ _
  · exact foldl_keeps _ State.ts (fun s i => by simp) _ _
  · exact foldl_keeps _ State.frf (fun s i => by simp) _ _
  · exact foldl_keeps _ State.pm (fun s i => by simp) _ _
  · exact foldl_keeps _ State.es (fun s i => by simp) _ _
  · exact foldl_keeps _ State.mu (fun s i => by simp) _ _
  · exact foldl_keeps _ State.sul (fun s i => by simp) _ _

@[simp] theorem performInvalidation_frame (d : Descriptor) (s : State) :
    (performInvalidation d s).pending = s.pending ∧ (performInvalidation d s).powered = s.powered ∧
    (performInvalidation d s).powerLosses = s.powerLosses ∧ (performInvalidation d s).tp = s.tp ∧
    (performInvalidation d s).dsp = s.dsp ∧ (performInvalidation d s).pu = s.pu ∧
    (performInvalidation d s).ports = s.ports ∧ (performInvalidation d s).ust = s.ust ∧
    (performInvalidation d s).iqe = s.iqe ∧ (performInvalidation d s).ts = s.ts ∧
    (performInvalidation d s).frf = s.frf ∧ (performInvalidation d s).pm = s.pm ∧
    (performInvalidation d s).es = s.es ∧ (performInvalidation d s).mu = s.mu ∧
    (performInvalidation d s).sul = s.sul := by
  unfold performInvalidation; split
  · simp
  · refine ⟨?_, ?_, ?_, ?_, ?_, ?_, ?_, ?_, ?_, ?_, ?_, ?_, ?_, ?_, ?_⟩
    · exact foldl_keeps _ State.pending (fun s i => by simp) _ _
    · exact foldl_keeps _ State.powered (fun s i => by simp) _ _
    · exact foldl_keeps _ State.powerLosses (fun s i => by simp) _ _
    · exact foldl_keeps _ State.tp (fun s i => by simp) _ _
    · exact foldl_keeps _ State.dsp (fun s i => by simp) _ _
    · exact foldl_keeps _ State.pu (fun s i => by simp) _ _
    · exact foldl_keeps _ State.ports (fun s i => by simp) _ _
    · exact foldl_keeps _ State.ust (fun s i => by simp) _ _
    · exact foldl_keeps _ State.iqe (fun s i => by simp) _ _
    · exact foldl_keeps _ State.ts (fun s i => by simp) _ _
    · exact foldl_keeps _ State.frf (fun s i => by simp) _ _
    · exact foldl_keeps _ State.pm (fun s i => by simp) _ _
    · exact foldl_keeps _ State.es (fun s i => by simp) _ _
    · exact foldl_keeps _ State.mu (fun s i => by simp) _ _
    · exact foldl_keeps _ State.sul (fun s i => by simp) _ _

@[simp] theorem judgeFill_frame (i : SlotNo) (u : Byte) (s : State) :
    (judgeFill i u s).pending = s.pending ∧ (judgeFill i u s).powered = s.powered ∧
    (judgeFill i u s).powerLosses = s.powerLosses ∧ (judgeFill i u s).tp = s.tp ∧ (judgeFill i u s).dsp = s.dsp ∧
    (judgeFill i u s).rc = s.rc ∧ (judgeFill i u s).pu = s.pu ∧ (judgeFill i u s).ports = s.ports ∧
    (judgeFill i u s).ust = s.ust ∧ (judgeFill i u s).iqe = s.iqe ∧ (judgeFill i u s).frf = s.frf ∧
    (judgeFill i u s).mu = s.mu ∧ (judgeFill i u s).sul = s.sul := by
  unfold judgeFill; split <;> simp

@[simp] theorem rejudgeFills_frame (s : State) :
    (rejudgeFills s).pending = s.pending ∧ (rejudgeFills s).powered = s.powered ∧
    (rejudgeFills s).powerLosses = s.powerLosses ∧ (rejudgeFills s).tp = s.tp ∧ (rejudgeFills s).dsp = s.dsp ∧
    (rejudgeFills s).rc = s.rc ∧ (rejudgeFills s).pu = s.pu ∧ (rejudgeFills s).ports = s.ports ∧
    (rejudgeFills s).ust = s.ust ∧ (rejudgeFills s).iqe = s.iqe ∧ (rejudgeFills s).frf = s.frf ∧
    (rejudgeFills s).mu = s.mu ∧ (rejudgeFills s).sul = s.sul := by
  refine ⟨?_, ?_, ?_, ?_, ?_, ?_, ?_, ?_, ?_, ?_, ?_, ?_, ?_⟩
  · exact foldl_keeps _ State.pending (fun s f => by simp) _ _
  · exact foldl_keeps _ State.powered (fun s f => by simp) _ _
  · exact foldl_keeps _ State.powerLosses (fun s f => by simp) _ _
  · exact foldl_keeps _ State.tp (fun s f => by simp) _ _
  · exact foldl_keeps _ State.dsp (fun s f => by simp) _ _
  · exact foldl_keeps _ State.rc (fun s f => by simp) _ _
  · exact foldl_keeps _ State.pu (fun s f => by simp) _ _
  · exact foldl_keeps _ State.ports (fun s f => by simp) _ _
  · exact foldl_keeps _ State.ust (fun s f => by simp) _ _
  · exact foldl_keeps _ State.iqe (fun s f => by simp) _ _
  · exact foldl_keeps _ State.frf (fun s f => by simp) _ _
  · exact foldl_keeps _ State.mu (fun s f => by simp) _ _
  · exact foldl_keeps _ State.sul (fun s f => by simp) _ _

@[simp] theorem resume_frame (s : State) :
    (resume s).pending = s.pending ∧ (resume s).powered = s.powered ∧ (resume s).powerLosses = s.powerLosses ∧
    (resume s).tp = s.tp ∧ (resume s).dsp = s.dsp ∧ (resume s).rc = s.rc ∧ (resume s).pu = s.pu ∧
    (resume s).ports = s.ports ∧ (resume s).ust = s.ust ∧ (resume s).iqe = s.iqe ∧ (resume s).frf = s.frf ∧
    (resume s).mu = s.mu ∧ (resume s).sul = s.sul := by
  unfold resume; split <;> simp

@[simp] theorem autoResume_frame (s : State) :
    (autoResume s).pending = s.pending ∧ (autoResume s).powered = s.powered ∧
    (autoResume s).powerLosses = s.powerLosses ∧ (autoResume s).tp = s.tp ∧ (autoResume s).dsp = s.dsp ∧
    (autoResume s).rc = s.rc ∧ (autoResume s).pu = s.pu ∧ (autoResume s).ports = s.ports ∧
    (autoResume s).ust = s.ust ∧ (autoResume s).iqe = s.iqe ∧ (autoResume s).frf = s.frf ∧ (autoResume s).mu = s.mu ∧
    (autoResume s).sul = s.sul := by
  unfold autoResume; split <;> simp

@[simp] theorem loaderExamine_frame (s : State) :
    (loaderExamine s).pending = s.pending ∧ (loaderExamine s).powered = s.powered ∧
    (loaderExamine s).powerLosses = s.powerLosses ∧ (loaderExamine s).tp = s.tp ∧ (loaderExamine s).dsp = s.dsp ∧
    (loaderExamine s).rc = s.rc ∧ (loaderExamine s).pu = s.pu ∧ (loaderExamine s).ports = s.ports ∧
    (loaderExamine s).ust = s.ust ∧ (loaderExamine s).iqe = s.iqe ∧ (loaderExamine s).frf = s.frf ∧
    (loaderExamine s).mu = s.mu := by
  unfold loaderExamine; repeat' split
  all_goals simp

@[simp] theorem arbiter_frame (s : State) :
    (arbiter s).pending = s.pending ∧ (arbiter s).powered = s.powered ∧ (arbiter s).powerLosses = s.powerLosses ∧
    (arbiter s).tp = s.tp ∧ (arbiter s).dsp = s.dsp ∧ (arbiter s).rc = s.rc ∧ (arbiter s).pu = s.pu ∧
    (arbiter s).ports = s.ports ∧ (arbiter s).ust = s.ust ∧ (arbiter s).iqe = s.iqe ∧ (arbiter s).frf = s.frf ∧
    (arbiter s).pm = s.pm ∧ (arbiter s).es = s.es ∧ (arbiter s).mu = s.mu ∧ (arbiter s).sul = s.sul := by
  unfold arbiter; repeat' split
  all_goals simp

@[simp] theorem settle_frame (s : State) :
    (settle s).pending = s.pending ∧ (settle s).powered = s.powered ∧ (settle s).powerLosses = s.powerLosses ∧
    (settle s).tp = s.tp ∧ (settle s).dsp = s.dsp ∧ (settle s).rc = s.rc ∧ (settle s).pu = s.pu ∧
    (settle s).ports = s.ports ∧ (settle s).ust = s.ust ∧ (settle s).iqe = s.iqe ∧ (settle s).frf = s.frf ∧
    (settle s).mu = s.mu := by
  simp [settle]

@[simp] theorem completeOperation_frame (o : Operation) (s : State) :
    (completeOperation o s).pending = s.pending ∧ (completeOperation o s).powered = s.powered ∧
    (completeOperation o s).powerLosses = s.powerLosses ∧ (completeOperation o s).tp = s.tp ∧
    (completeOperation o s).dsp = s.dsp ∧ (completeOperation o s).rc = s.rc ∧ (completeOperation o s).pu = s.pu ∧
    (completeOperation o s).ports = s.ports ∧ (completeOperation o s).ust = s.ust ∧
    (completeOperation o s).iqe = s.iqe ∧ (completeOperation o s).frf = s.frf ∧ (completeOperation o s).mu = s.mu ∧
    (completeOperation o s).sul = s.sul := by
  simp [completeOperation]

@[simp] theorem suspendEffective_frame (w : Owner) (o : Operation) (s : State) :
    (suspendEffective w o s).pending = s.pending ∧ (suspendEffective w o s).powered = s.powered ∧
    (suspendEffective w o s).powerLosses = s.powerLosses ∧ (suspendEffective w o s).tp = s.tp ∧
    (suspendEffective w o s).dsp = s.dsp ∧ (suspendEffective w o s).rc = s.rc ∧ (suspendEffective w o s).pu = s.pu ∧
    (suspendEffective w o s).ports = s.ports ∧ (suspendEffective w o s).ust = s.ust ∧
    (suspendEffective w o s).iqe = s.iqe ∧ (suspendEffective w o s).frf = s.frf ∧
    (suspendEffective w o s).mu = s.mu ∧ (suspendEffective w o s).sul = s.sul := by
  simp [suspendEffective]

@[simp] theorem setWel_frame (b : Bool) (s : State) :
    (setWel b s).pending = s.pending ∧ (setWel b s).powered = s.powered ∧ (setWel b s).powerLosses = s.powerLosses ∧
    (setWel b s).tp = s.tp ∧ (setWel b s).dsp = s.dsp ∧ (setWel b s).rc = s.rc ∧ (setWel b s).pu = s.pu ∧
    (setWel b s).ports = s.ports ∧ (setWel b s).ust = s.ust ∧ (setWel b s).iqe = s.iqe ∧ (setWel b s).frf = s.frf ∧
    (setWel b s).pm = s.pm ∧ (setWel b s).es = s.es ∧ (setWel b s).mu = s.mu ∧ (setWel b s).sul = s.sul := by
  simp [setWel]

@[simp] theorem startOperation_frame (o : StoreOp) (s : State) :
    (startOperation o s).pending = s.pending ∧ (startOperation o s).powered = s.powered ∧
    (startOperation o s).powerLosses = s.powerLosses ∧ (startOperation o s).tp = s.tp ∧
    (startOperation o s).dsp = s.dsp ∧ (startOperation o s).rc = s.rc ∧ (startOperation o s).pu = s.pu ∧
    (startOperation o s).ports = s.ports ∧ (startOperation o s).ust = s.ust ∧ (startOperation o s).iqe = s.iqe ∧
    (startOperation o s).frf = s.frf ∧ (startOperation o s).mu = s.mu ∧ (startOperation o s).sul = s.sul := by
  simp [startOperation]

@[simp] theorem markExecuting_frame (t : Tag) (s : State) :
    (markExecuting t s).pending = s.pending ∧ (markExecuting t s).powered = s.powered ∧
    (markExecuting t s).powerLosses = s.powerLosses ∧ (markExecuting t s).tp = s.tp ∧
    (markExecuting t s).dsp = s.dsp ∧ (markExecuting t s).rc = s.rc ∧ (markExecuting t s).pu = s.pu ∧
    (markExecuting t s).ports = s.ports ∧ (markExecuting t s).ust = s.ust ∧ (markExecuting t s).iqe = s.iqe ∧
    (markExecuting t s).ts = s.ts ∧ (markExecuting t s).frf = s.frf ∧ (markExecuting t s).pm = s.pm ∧
    (markExecuting t s).es = s.es ∧ (markExecuting t s).sul = s.sul := by
  simp [markExecuting]

@[simp] theorem hold_frame (t : Tag) (s : State) :
    (hold t s).pending = s.pending ∧ (hold t s).powered = s.powered ∧ (hold t s).powerLosses = s.powerLosses ∧
    (hold t s).tp = s.tp ∧ (hold t s).rc = s.rc ∧ (hold t s).ports = s.ports ∧ (hold t s).ust = s.ust ∧
    (hold t s).iqe = s.iqe ∧ (hold t s).ts = s.ts ∧ (hold t s).frf = s.frf ∧ (hold t s).pm = s.pm ∧
    (hold t s).es = s.es ∧ (hold t s).mu = s.mu ∧ (hold t s).sul = s.sul := by
  simp [hold]

@[simp] theorem refuse_frame (t : Tag) (o : OutcomeCode) (s : State) :
    (refuse t o s).pending = s.pending ∧ (refuse t o s).powered = s.powered ∧
    (refuse t o s).powerLosses = s.powerLosses ∧ (refuse t o s).rc = s.rc ∧ (refuse t o s).pu = s.pu ∧
    (refuse t o s).ports = s.ports ∧ (refuse t o s).iqe = s.iqe ∧ (refuse t o s).ts = s.ts ∧
    (refuse t o s).frf = s.frf ∧ (refuse t o s).mu = s.mu ∧ (refuse t o s).sul = s.sul := by
  simp [refuse]

@[simp] theorem refuseIllegal_frame (t : Tag) (n : Nat) (s : State) :
    (refuseIllegal t n s).pending = s.pending ∧ (refuseIllegal t n s).powered = s.powered ∧
    (refuseIllegal t n s).powerLosses = s.powerLosses ∧ (refuseIllegal t n s).rc = s.rc ∧
    (refuseIllegal t n s).pu = s.pu ∧ (refuseIllegal t n s).ports = s.ports ∧ (refuseIllegal t n s).iqe = s.iqe ∧
    (refuseIllegal t n s).ts = s.ts ∧ (refuseIllegal t n s).mu = s.mu ∧ (refuseIllegal t n s).sul = s.sul := by
  simp [refuseIllegal]

@[simp] theorem answerLocally_frame (t : Tag) (r : Route) (s : State) :
    (answerLocally t r s).pending = s.pending ∧ (answerLocally t r s).powered = s.powered ∧
    (answerLocally t r s).powerLosses = s.powerLosses ∧ (answerLocally t r s).rc = s.rc ∧
    (answerLocally t r s).pu = s.pu ∧ (answerLocally t r s).ports = s.ports ∧ (answerLocally t r s).iqe = s.iqe ∧
    (answerLocally t r s).ts = s.ts ∧ (answerLocally t r s).frf = s.frf ∧ (answerLocally t r s).mu = s.mu ∧
    (answerLocally t r s).sul = s.sul := by
  simp [answerLocally]

@[simp] theorem enterQueue_frame (t : Tag) (i : SlotNo) (b : Branch) (s : State) :
    (enterQueue t i b s).pending = s.pending ∧ (enterQueue t i b s).powered = s.powered ∧
    (enterQueue t i b s).powerLosses = s.powerLosses ∧ (enterQueue t i b s).tp = s.tp ∧
    (enterQueue t i b s).pu = s.pu ∧ (enterQueue t i b s).ust = s.ust ∧ (enterQueue t i b s).iqe = s.iqe ∧
    (enterQueue t i b s).ts = s.ts ∧ (enterQueue t i b s).frf = s.frf ∧ (enterQueue t i b s).pm = s.pm ∧
    (enterQueue t i b s).es = s.es ∧ (enterQueue t i b s).mu = s.mu ∧ (enterQueue t i b s).sul = s.sul := by
  simp [enterQueue]

@[simp] theorem portChecks_frame (t : Tag) (i : SlotNo) (b : Branch) (s : State) :
    (portChecks t i b s).pending = s.pending ∧ (portChecks t i b s).powered = s.powered ∧
    (portChecks t i b s).powerLosses = s.powerLosses ∧ (portChecks t i b s).pu = s.pu ∧
    (portChecks t i b s).iqe = s.iqe ∧ (portChecks t i b s).ts = s.ts ∧ (portChecks t i b s).frf = s.frf ∧
    (portChecks t i b s).pm = s.pm ∧ (portChecks t i b s).es = s.es ∧ (portChecks t i b s).mu = s.mu ∧
    (portChecks t i b s).sul = s.sul := by
  unfold portChecks; repeat' split
  all_goals simp

@[simp] theorem actionChecks_frame (t : Tag) (i : SlotNo) (r : Route) (s : State) :
    (actionChecks t i r s).pending = s.pending ∧ (actionChecks t i r s).powered = s.powered ∧
    (actionChecks t i r s).powerLosses = s.powerLosses ∧ (actionChecks t i r s).pu = s.pu ∧
    (actionChecks t i r s).iqe = s.iqe ∧ (actionChecks t i r s).ts = s.ts ∧ (actionChecks t i r s).mu = s.mu ∧
    (actionChecks t i r s).sul = s.sul := by
  unfold actionChecks; dsimp only; split
  · simp
  · split <;> simp

@[simp] theorem judgeUnitRequest_frame (t : Tag) (i : SlotNo) (r : Route) (s : State) :
    (judgeUnitRequest t i r s).pending = s.pending ∧ (judgeUnitRequest t i r s).powered = s.powered ∧
    (judgeUnitRequest t i r s).powerLosses = s.powerLosses ∧ (judgeUnitRequest t i r s).pu = s.pu ∧
    (judgeUnitRequest t i r s).iqe = s.iqe ∧ (judgeUnitRequest t i r s).ts = s.ts ∧
    (judgeUnitRequest t i r s).mu = s.mu ∧ (judgeUnitRequest t i r s).sul = s.sul := by
  unfold judgeUnitRequest; dsimp only; split <;> simp

@[simp] theorem unitPolicyCheck_frame (t : Tag) (i : SlotNo) (r : Route) (s : State) :
    (unitPolicyCheck t i r s).pending = s.pending ∧ (unitPolicyCheck t i r s).powered = s.powered ∧
    (unitPolicyCheck t i r s).powerLosses = s.powerLosses ∧ (unitPolicyCheck t i r s).iqe = s.iqe ∧
    (unitPolicyCheck t i r s).ts = s.ts ∧ (unitPolicyCheck t i r s).mu = s.mu ∧
    (unitPolicyCheck t i r s).sul = s.sul := by
  unfold unitPolicyCheck; split <;> simp

@[simp] theorem decideBroadcast_frame (t : Tag) (s : State) :
    (decideBroadcast t s).pending = s.pending ∧ (decideBroadcast t s).powered = s.powered ∧
    (decideBroadcast t s).powerLosses = s.powerLosses ∧ (decideBroadcast t s).rc = s.rc ∧
    (decideBroadcast t s).pu = s.pu ∧ (decideBroadcast t s).ports = s.ports ∧ (decideBroadcast t s).iqe = s.iqe ∧
    (decideBroadcast t s).ts = s.ts ∧ (decideBroadcast t s).frf = s.frf ∧ (decideBroadcast t s).pm = s.pm ∧
    (decideBroadcast t s).es = s.es ∧ (decideBroadcast t s).mu = s.mu ∧ (decideBroadcast t s).sul = s.sul := by
  unfold decideBroadcast; dsimp only; repeat' split
  all_goals simp

@[simp] theorem setMember_frame (t : Tag) (b : Branch) (m : MemberState) (s : State) :
    (setMember t b m s).pending = s.pending ∧ (setMember t b m s).powered = s.powered ∧
    (setMember t b m s).powerLosses = s.powerLosses ∧ (setMember t b m s).tp = s.tp ∧ (setMember t b m s).rc = s.rc ∧
    (setMember t b m s).pu = s.pu ∧ (setMember t b m s).ports = s.ports ∧ (setMember t b m s).ust = s.ust ∧
    (setMember t b m s).iqe = s.iqe ∧ (setMember t b m s).ts = s.ts ∧ (setMember t b m s).frf = s.frf ∧
    (setMember t b m s).pm = s.pm ∧ (setMember t b m s).es = s.es ∧ (setMember t b m s).mu = s.mu ∧
    (setMember t b m s).sul = s.sul := by
  simp [setMember]

@[simp] theorem endMember_frame (t : Tag) (b : Branch) (ok : Bool) (s : State) :
    (endMember t b ok s).pending = s.pending ∧ (endMember t b ok s).powered = s.powered ∧
    (endMember t b ok s).powerLosses = s.powerLosses ∧ (endMember t b ok s).rc = s.rc ∧
    (endMember t b ok s).pu = s.pu ∧ (endMember t b ok s).ports = s.ports ∧ (endMember t b ok s).iqe = s.iqe ∧
    (endMember t b ok s).ts = s.ts ∧ (endMember t b ok s).frf = s.frf ∧ (endMember t b ok s).pm = s.pm ∧
    (endMember t b ok s).es = s.es ∧ (endMember t b ok s).mu = s.mu ∧ (endMember t b ok s).sul = s.sul := by
  simp [endMember]

@[simp] theorem fanOutTo_frame (t : Tag) (b : Branch) (s : State) :
    (fanOutTo t s b).pending = s.pending ∧ (fanOutTo t s b).powered = s.powered ∧
    (fanOutTo t s b).powerLosses = s.powerLosses ∧ (fanOutTo t s b).tp = s.tp ∧ (fanOutTo t s b).rc = s.rc ∧
    (fanOutTo t s b).pu = s.pu ∧ (fanOutTo t s b).ust = s.ust ∧ (fanOutTo t s b).iqe = s.iqe ∧
    (fanOutTo t s b).ts = s.ts ∧ (fanOutTo t s b).frf = s.frf ∧ (fanOutTo t s b).pm = s.pm ∧
    (fanOutTo t s b).es = s.es ∧ (fanOutTo t s b).mu = s.mu ∧ (fanOutTo t s b).sul = s.sul := by
  unfold fanOutTo; repeat' split
  all_goals simp

@[simp] theorem fanOut_frame (t : Tag) (s : State) :
    (fanOut t s).pending = s.pending ∧ (fanOut t s).powered = s.powered ∧ (fanOut t s).powerLosses = s.powerLosses ∧
    (fanOut t s).rc = s.rc ∧ (fanOut t s).pu = s.pu ∧ (fanOut t s).iqe = s.iqe ∧ (fanOut t s).ts = s.ts ∧
    (fanOut t s).frf = s.frf ∧ (fanOut t s).pm = s.pm ∧ (fanOut t s).es = s.es ∧ (fanOut t s).mu = s.mu ∧
    (fanOut t s).sul = s.sul := by
  unfold fanOut; simp only [decideBroadcast_frame]
  refine ⟨?_, ?_, ?_, ?_, ?_, ?_, ?_, ?_, ?_, ?_, ?_, ?_⟩
  · exact foldl_keeps _ State.pending (fun s b => by simp) _ _
  · exact foldl_keeps _ State.powered (fun s b => by simp) _ _
  · exact foldl_keeps _ State.powerLosses (fun s b => by simp) _ _
  · exact foldl_keeps _ State.rc (fun s b => by simp) _ _
  · exact foldl_keeps _ State.pu (fun s b => by simp) _ _
  · exact foldl_keeps _ State.iqe (fun s b => by simp) _ _
  · exact foldl_keeps _ State.ts (fun s b => by simp) _ _
  · exact foldl_keeps _ State.frf (fun s b => by simp) _ _
  · exact foldl_keeps _ State.pm (fun s b => by simp) _ _
  · exact foldl_keeps _ State.es (fun s b => by simp) _ _
  · exact foldl_keeps _ State.mu (fun s b => by simp) _ _
  · exact foldl_keeps _ State.sul (fun s b => by simp) _ _

@[simp] theorem judgeBroadcast_frame (t : Tag) (s : State) :
    (judgeBroadcast t s).pending = s.pending ∧ (judgeBroadcast t s).powered = s.powered ∧
    (judgeBroadcast t s).powerLosses = s.powerLosses ∧ (judgeBroadcast t s).rc = s.rc ∧
    (judgeBroadcast t s).pu = s.pu ∧ (judgeBroadcast t s).iqe = s.iqe ∧ (judgeBroadcast t s).ts = s.ts ∧
    (judgeBroadcast t s).mu = s.mu ∧ (judgeBroadcast t s).sul = s.sul := by
  unfold judgeBroadcast; dsimp only; split <;> simp

@[simp] theorem broadcastPolicyCheck_frame (t : Tag) (s : State) :
    (broadcastPolicyCheck t s).pending = s.pending ∧ (broadcastPolicyCheck t s).powered = s.powered ∧
    (broadcastPolicyCheck t s).powerLosses = s.powerLosses ∧ (broadcastPolicyCheck t s).rc = s.rc ∧
    (broadcastPolicyCheck t s).iqe = s.iqe ∧ (broadcastPolicyCheck t s).ts = s.ts ∧
    (broadcastPolicyCheck t s).mu = s.mu ∧ (broadcastPolicyCheck t s).sul = s.sul := by
  unfold broadcastPolicyCheck; split <;> simp

@[simp] theorem lookupHit_frame (t : Tag) (i : SlotNo) (r : Route) (s : State) :
    (lookupHit t i r s).pending = s.pending ∧ (lookupHit t i r s).powered = s.powered ∧
    (lookupHit t i r s).powerLosses = s.powerLosses ∧ (lookupHit t i r s).iqe = s.iqe ∧
    (lookupHit t i r s).ts = s.ts ∧ (lookupHit t i r s).mu = s.mu ∧ (lookupHit t i r s).sul = s.sul := by
  simp [lookupHit]

@[simp] theorem lookupJoin_frame (t : Tag) (i : SlotNo) (u : Byte) (m : Bool) (w : List Tag) (s : State) :
    (lookupJoin t i u m w s).pending = s.pending ∧ (lookupJoin t i u m w s).powered = s.powered ∧
    (lookupJoin t i u m w s).powerLosses = s.powerLosses ∧ (lookupJoin t i u m w s).tp = s.tp ∧
    (lookupJoin t i u m w s).dsp = s.dsp ∧ (lookupJoin t i u m w s).pu = s.pu ∧
    (lookupJoin t i u m w s).ports = s.ports ∧ (lookupJoin t i u m w s).ust = s.ust ∧
    (lookupJoin t i u m w s).iqe = s.iqe ∧ (lookupJoin t i u m w s).ts = s.ts ∧
    (lookupJoin t i u m w s).frf = s.frf ∧ (lookupJoin t i u m w s).mu = s.mu ∧
    (lookupJoin t i u m w s).sul = s.sul := by
  simp [lookupJoin]

@[simp] theorem claimSlot_frame (t : Tag) (i : SlotNo) (u : Byte) (s : State) :
    (claimSlot t i u s).pending = s.pending ∧ (claimSlot t i u s).powered = s.powered ∧
    (claimSlot t i u s).powerLosses = s.powerLosses ∧ (claimSlot t i u s).tp = s.tp ∧
    (claimSlot t i u s).dsp = s.dsp ∧ (claimSlot t i u s).pu = s.pu ∧ (claimSlot t i u s).ports = s.ports ∧
    (claimSlot t i u s).ust = s.ust ∧ (claimSlot t i u s).iqe = s.iqe ∧ (claimSlot t i u s).frf = s.frf ∧
    (claimSlot t i u s).pm = s.pm ∧ (claimSlot t i u s).es = s.es ∧ (claimSlot t i u s).mu = s.mu ∧
    (claimSlot t i u s).sul = s.sul := by
  simp [claimSlot]

@[simp] theorem lookupMiss_frame (t : Tag) (u : Byte) (s : State) :
    (lookupMiss t u s).pending = s.pending ∧ (lookupMiss t u s).powered = s.powered ∧
    (lookupMiss t u s).powerLosses = s.powerLosses ∧ (lookupMiss t u s).tp = s.tp ∧ (lookupMiss t u s).dsp = s.dsp ∧
    (lookupMiss t u s).pu = s.pu ∧ (lookupMiss t u s).ports = s.ports ∧ (lookupMiss t u s).ust = s.ust ∧
    (lookupMiss t u s).frf = s.frf ∧ (lookupMiss t u s).mu = s.mu ∧ (lookupMiss t u s).sul = s.sul := by
  unfold lookupMiss; split
  · simp
  · dsimp only; split <;> simp

@[simp] theorem lookup_frame (t : Tag) (s : State) :
    (lookup t s).pending = s.pending ∧ (lookup t s).powered = s.powered ∧ (lookup t s).powerLosses = s.powerLosses ∧
    (lookup t s).mu = s.mu ∧ (lookup t s).sul = s.sul := by
  unfold lookup; dsimp only; repeat' split
  all_goals simp

@[simp] theorem release_frame (t : Tag) (s : State) :
    (release s t).pending = s.pending ∧ (release s t).powered = s.powered ∧
    (release s t).powerLosses = s.powerLosses ∧ (release s t).mu = s.mu ∧ (release s t).sul = s.sul := by
  unfold release; split <;> simp

@[simp] theorem endWaiters_frame (o : OutcomeCode) (w : List Tag) (s : State) :
    (endWaiters o w s).pending = s.pending ∧ (endWaiters o w s).powered = s.powered ∧
    (endWaiters o w s).powerLosses = s.powerLosses ∧ (endWaiters o w s).rc = s.rc ∧ (endWaiters o w s).pu = s.pu ∧
    (endWaiters o w s).ports = s.ports ∧ (endWaiters o w s).iqe = s.iqe ∧ (endWaiters o w s).ts = s.ts ∧
    (endWaiters o w s).frf = s.frf ∧ (endWaiters o w s).pm = s.pm ∧ (endWaiters o w s).es = s.es ∧
    (endWaiters o w s).mu = s.mu ∧ (endWaiters o w s).sul = s.sul := by
  refine ⟨?_, ?_, ?_, ?_, ?_, ?_, ?_, ?_, ?_, ?_, ?_, ?_, ?_⟩
  · exact foldl_keeps _ State.pending (fun s t => by simp) _ _
  · exact foldl_keeps _ State.powered (fun s t => by simp) _ _
  · exact foldl_keeps _ State.powerLosses (fun s t => by simp) _ _
  · exact foldl_keeps _ State.rc (fun s t => by simp) _ _
  · exact foldl_keeps _ State.pu (fun s t => by simp) _ _
  · exact foldl_keeps _ State.ports (fun s t => by simp) _ _
  · exact foldl_keeps _ State.iqe (fun s t => by simp) _ _
  · exact foldl_keeps _ State.ts (fun s t => by simp) _ _
  · exact foldl_keeps _ State.frf (fun s t => by simp) _ _
  · exact foldl_keeps _ State.pm (fun s t => by simp) _ _
  · exact foldl_keeps _ State.es (fun s t => by simp) _ _
  · exact foldl_keeps _ State.mu (fun s t => by simp) _ _
  · exact foldl_keeps _ State.sul (fun s t => by simp) _ _

@[simp] theorem fillFault_frame (k : FaultKind) (u : Byte) (w : List Tag) (s : State) :
    (fillFault k u w s).pending = s.pending ∧ (fillFault k u w s).powered = s.powered ∧
    (fillFault k u w s).powerLosses = s.powerLosses ∧ (fillFault k u w s).tp = s.tp ∧
    (fillFault k u w s).dsp = s.dsp ∧ (fillFault k u w s).rc = s.rc ∧ (fillFault k u w s).pu = s.pu ∧
    (fillFault k u w s).ports = s.ports ∧ (fillFault k u w s).ust = s.ust ∧ (fillFault k u w s).iqe = s.iqe ∧
    (fillFault k u w s).ts = s.ts ∧ (fillFault k u w s).pm = s.pm ∧ (fillFault k u w s).es = s.es ∧
    (fillFault k u w s).mu = s.mu ∧ (fillFault k u w s).sul = s.sul := by
  unfold fillFault; split <;> simp

@[simp] theorem fillPresent_frame (i : SlotNo) (u : Byte) (r : Route) (w : List Tag) (s : State) :
    (fillPresent i u r w s).pending = s.pending ∧ (fillPresent i u r w s).powered = s.powered ∧
    (fillPresent i u r w s).powerLosses = s.powerLosses ∧ (fillPresent i u r w s).iqe = s.iqe ∧
    (fillPresent i u r w s).ts = s.ts ∧ (fillPresent i u r w s).mu = s.mu ∧ (fillPresent i u r w s).sul = s.sul := by
  unfold fillPresent
  refine ⟨?_, ?_, ?_, ?_, ?_, ?_, ?_⟩
  · exact (foldl_keeps _ State.pending (fun s t => by simp) _ _).trans (by simp)
  · exact (foldl_keeps _ State.powered (fun s t => by simp) _ _).trans (by simp)
  · exact (foldl_keeps _ State.powerLosses (fun s t => by simp) _ _).trans (by simp)
  · exact (foldl_keeps _ State.iqe (fun s t => by simp) _ _).trans (by simp)
  · exact (foldl_keeps _ State.ts (fun s t => by simp) _ _).trans (by simp)
  · exact (foldl_keeps _ State.mu (fun s t => by simp) _ _).trans (by simp)
  · exact (foldl_keeps _ State.sul (fun s t => by simp) _ _).trans (by simp)

@[simp] theorem fillWithout_frame (k : FaultKind) (i : SlotNo) (u : Byte) (w : List Tag) (s : State) :
    (fillWithout k i u w s).pending = s.pending ∧ (fillWithout k i u w s).powered = s.powered ∧
    (fillWithout k i u w s).powerLosses = s.powerLosses ∧ (fillWithout k i u w s).pu = s.pu ∧
    (fillWithout k i u w s).ports = s.ports ∧ (fillWithout k i u w s).iqe = s.iqe ∧
    (fillWithout k i u w s).ts = s.ts ∧ (fillWithout k i u w s).pm = s.pm ∧ (fillWithout k i u w s).es = s.es ∧
    (fillWithout k i u w s).mu = s.mu ∧ (fillWithout k i u w s).sul = s.sul := by
  simp [fillWithout]

@[simp] theorem fillMarked_frame (i : SlotNo) (u : Byte) (w : List Tag) (s : State) :
    (fillMarked i u w s).pending = s.pending ∧ (fillMarked i u w s).powered = s.powered ∧
    (fillMarked i u w s).powerLosses = s.powerLosses ∧ (fillMarked i u w s).tp = s.tp ∧
    (fillMarked i u w s).dsp = s.dsp ∧ (fillMarked i u w s).pu = s.pu ∧ (fillMarked i u w s).ports = s.ports ∧
    (fillMarked i u w s).ust = s.ust ∧ (fillMarked i u w s).frf = s.frf ∧ (fillMarked i u w s).mu = s.mu ∧
    (fillMarked i u w s).sul = s.sul := by
  unfold fillMarked; split <;> simp

@[simp] theorem fillResult_frame (i : SlotNo) (bs : List Byte) (s : State) :
    (fillResult i bs s).pending = s.pending ∧ (fillResult i bs s).powered = s.powered ∧
    (fillResult i bs s).powerLosses = s.powerLosses ∧ (fillResult i bs s).mu = s.mu ∧
    (fillResult i bs s).sul = s.sul := by
  unfold fillResult; repeat' split
  all_goals simp

@[simp] theorem fillRefused_frame (i : SlotNo) (s : State) :
    (fillRefused i s).pending = s.pending ∧ (fillRefused i s).powered = s.powered ∧
    (fillRefused i s).powerLosses = s.powerLosses ∧ (fillRefused i s).pu = s.pu ∧ (fillRefused i s).ports = s.ports ∧
    (fillRefused i s).ts = s.ts ∧ (fillRefused i s).frf = s.frf ∧ (fillRefused i s).pm = s.pm ∧
    (fillRefused i s).mu = s.mu ∧ (fillRefused i s).sul = s.sul := by
  unfold fillRefused; split
  · dsimp only; split <;> simp
  · simp

@[simp] theorem recordEndFault_frame (t : Tag) (o : OutcomeCode) (s : State) :
    (recordEndFault t o s).pending = s.pending ∧ (recordEndFault t o s).powered = s.powered ∧
    (recordEndFault t o s).powerLosses = s.powerLosses ∧ (recordEndFault t o s).tp = s.tp ∧
    (recordEndFault t o s).dsp = s.dsp ∧ (recordEndFault t o s).rc = s.rc ∧ (recordEndFault t o s).pu = s.pu ∧
    (recordEndFault t o s).ports = s.ports ∧ (recordEndFault t o s).ust = s.ust ∧
    (recordEndFault t o s).iqe = s.iqe ∧ (recordEndFault t o s).ts = s.ts ∧ (recordEndFault t o s).pm = s.pm ∧
    (recordEndFault t o s).es = s.es ∧ (recordEndFault t o s).mu = s.mu ∧ (recordEndFault t o s).sul = s.sul := by
  unfold recordEndFault; split <;> simp

@[simp] theorem endUnit_frame (t : Tag) (c : EndCause) (st : Option Byte) (s : State) :
    (endUnit t c st s).pending = s.pending ∧ (endUnit t c st s).powered = s.powered ∧
    (endUnit t c st s).powerLosses = s.powerLosses ∧ (endUnit t c st s).pu = s.pu ∧
    (endUnit t c st s).ports = s.ports ∧ (endUnit t c st s).ts = s.ts ∧ (endUnit t c st s).pm = s.pm ∧
    (endUnit t c st s).mu = s.mu ∧ (endUnit t c st s).sul = s.sul := by
  simp [endUnit]

@[simp] theorem dropEntry_frame (b : Branch) (e : QueueEntry) (s : State) :
    (dropEntry b e s).pending = s.pending ∧ (dropEntry b e s).powered = s.powered ∧
    (dropEntry b e s).powerLosses = s.powerLosses ∧ (dropEntry b e s).pu = s.pu ∧ (dropEntry b e s).ports = s.ports ∧
    (dropEntry b e s).ts = s.ts ∧ (dropEntry b e s).pm = s.pm ∧ (dropEntry b e s).mu = s.mu ∧
    (dropEntry b e s).sul = s.sul := by
  unfold dropEntry; split <;> simp

@[simp] theorem dropQueue_frame (b : Branch) (s : State) :
    (dropQueue b s).pending = s.pending ∧ (dropQueue b s).powered = s.powered ∧
    (dropQueue b s).powerLosses = s.powerLosses ∧ (dropQueue b s).pu = s.pu ∧ (dropQueue b s).ts = s.ts ∧
    (dropQueue b s).pm = s.pm ∧ (dropQueue b s).mu = s.mu ∧ (dropQueue b s).sul = s.sul := by
  refine ⟨?_, ?_, ?_, ?_, ?_, ?_, ?_, ?_⟩
  · exact foldl_keeps _ State.pending (fun s e => by simp) _ _
  · exact foldl_keeps _ State.powered (fun s e => by simp) _ _
  · exact foldl_keeps _ State.powerLosses (fun s e => by simp) _ _
  · exact foldl_keeps _ State.pu (fun s e => by simp) _ _
  · exact foldl_keeps _ State.ts (fun s e => by simp) _ _
  · exact foldl_keeps _ State.pm (fun s e => by simp) _ _
  · exact foldl_keeps _ State.mu (fun s e => by simp) _ _
  · exact foldl_keeps _ State.sul (fun s e => by simp) _ _

@[simp] theorem beginAttempt_frame (b : Branch) (x : Exchange) (s : State) :
    (beginAttempt b x s).pending = s.pending ∧ (beginAttempt b x s).powered = s.powered ∧
    (beginAttempt b x s).powerLosses = s.powerLosses ∧ (beginAttempt b x s).tp = s.tp ∧
    (beginAttempt b x s).dsp = s.dsp ∧ (beginAttempt b x s).rc = s.rc ∧ (beginAttempt b x s).pu = s.pu ∧
    (beginAttempt b x s).ust = s.ust ∧ (beginAttempt b x s).iqe = s.iqe ∧ (beginAttempt b x s).ts = s.ts ∧
    (beginAttempt b x s).frf = s.frf ∧ (beginAttempt b x s).mu = s.mu ∧ (beginAttempt b x s).sul = s.sul := by
  simp [beginAttempt]

@[simp] theorem reportEnd_frame (b : Branch) (x : Exchange) (c : EndCause) (ok : Bool) (st : Option Byte) (s : State) :
    (reportEnd b x c ok st s).pending = s.pending ∧ (reportEnd b x c ok st s).powered = s.powered ∧
    (reportEnd b x c ok st s).powerLosses = s.powerLosses ∧ (reportEnd b x c ok st s).pu = s.pu ∧
    (reportEnd b x c ok st s).ports = s.ports ∧ (reportEnd b x c ok st s).ts = s.ts ∧
    (reportEnd b x c ok st s).pm = s.pm ∧ (reportEnd b x c ok st s).mu = s.mu ∧
    (reportEnd b x c ok st s).sul = s.sul := by
  unfold reportEnd; split <;> simp

@[simp] theorem endExchange_frame (b : Branch) (x : Exchange) (c : EndCause) (ok : Bool) (st : Option Byte) (s : State) :
    (endExchange b x c ok st s).pending = s.pending ∧ (endExchange b x c ok st s).powered = s.powered ∧
    (endExchange b x c ok st s).powerLosses = s.powerLosses ∧ (endExchange b x c ok st s).pu = s.pu ∧
    (endExchange b x c ok st s).ts = s.ts ∧ (endExchange b x c ok st s).pm = s.pm ∧
    (endExchange b x c ok st s).mu = s.mu ∧ (endExchange b x c ok st s).sul = s.sul := by
  simp [endExchange]

@[simp] theorem failAttempt_frame (b : Branch) (x : Exchange) (c : EndCause) (s : State) :
    (failAttempt b x c s).pending = s.pending ∧ (failAttempt b x c s).powered = s.powered ∧
    (failAttempt b x c s).powerLosses = s.powerLosses ∧ (failAttempt b x c s).pu = s.pu ∧
    (failAttempt b x c s).ts = s.ts ∧ (failAttempt b x c s).mu = s.mu ∧ (failAttempt b x c s).sul = s.sul := by
  unfold failAttempt; repeat' split
  all_goals simp

@[simp] theorem takeEntry_frame (b : Branch) (e : QueueEntry) (r : List QueueEntry) (s : State) :
    (takeEntry b e r s).pending = s.pending ∧ (takeEntry b e r s).powered = s.powered ∧
    (takeEntry b e r s).powerLosses = s.powerLosses ∧ (takeEntry b e r s).tp = s.tp ∧ (takeEntry b e r s).rc = s.rc ∧
    (takeEntry b e r s).pu = s.pu ∧ (takeEntry b e r s).ust = s.ust ∧ (takeEntry b e r s).iqe = s.iqe ∧
    (takeEntry b e r s).ts = s.ts ∧ (takeEntry b e r s).frf = s.frf ∧ (takeEntry b e r s).mu = s.mu ∧
    (takeEntry b e r s).sul = s.sul := by
  unfold takeEntry; split <;> simp

@[simp] theorem shutDown_frame (b : Branch) (d : Byte) (s : State) :
    (shutDown b d s).pending = s.pending ∧ (shutDown b d s).powered = s.powered ∧
    (shutDown b d s).powerLosses = s.powerLosses ∧ (shutDown b d s).pu = s.pu ∧ (shutDown b d s).ts = s.ts ∧
    (shutDown b d s).pm = s.pm ∧ (shutDown b d s).mu = s.mu ∧ (shutDown b d s).sul = s.sul := by
  unfold shutDown; dsimp only; split <;> simp

@[simp] theorem goodEcho_frame (b : Branch) (x : Exchange) (s : State) :
    (goodEcho b x s).pending = s.pending ∧ (goodEcho b x s).powered = s.powered ∧
    (goodEcho b x s).powerLosses = s.powerLosses ∧ (goodEcho b x s).pu = s.pu ∧ (goodEcho b x s).ts = s.ts ∧
    (goodEcho b x s).pm = s.pm ∧ (goodEcho b x s).mu = s.mu ∧ (goodEcho b x s).sul = s.sul := by
  unfold goodEcho; dsimp only; split <;> simp

@[simp] theorem faultyEcho_frame (b : Branch) (x : Exchange) (s : State) :
    (faultyEcho b x s).pending = s.pending ∧ (faultyEcho b x s).powered = s.powered ∧
    (faultyEcho b x s).powerLosses = s.powerLosses ∧ (faultyEcho b x s).pu = s.pu ∧ (faultyEcho b x s).ts = s.ts ∧
    (faultyEcho b x s).mu = s.mu ∧ (faultyEcho b x s).sul = s.sul := by
  unfold faultyEcho; dsimp only; split <;> simp

@[simp] theorem stopTimer_frame (b : Branch) (s : State) :
    (stopTimer b s).pending = s.pending ∧ (stopTimer b s).powered = s.powered ∧
    (stopTimer b s).powerLosses = s.powerLosses ∧ (stopTimer b s).tp = s.tp ∧ (stopTimer b s).dsp = s.dsp ∧
    (stopTimer b s).rc = s.rc ∧ (stopTimer b s).pu = s.pu ∧ (stopTimer b s).ust = s.ust ∧
    (stopTimer b s).iqe = s.iqe ∧ (stopTimer b s).ts = s.ts ∧ (stopTimer b s).frf = s.frf ∧
    (stopTimer b s).pm = s.pm ∧ (stopTimer b s).es = s.es ∧ (stopTimer b s).mu = s.mu ∧
    (stopTimer b s).sul = s.sul := by
  simp [stopTimer]

@[simp] theorem hearReply_frame (b : Branch) (x : Exchange) (h : Heard) (s : State) :
    (hearReply b x h s).pending = s.pending ∧ (hearReply b x h s).powered = s.powered ∧
    (hearReply b x h s).powerLosses = s.powerLosses ∧ (hearReply b x h s).pu = s.pu ∧ (hearReply b x h s).ts = s.ts ∧
    (hearReply b x h s).mu = s.mu ∧ (hearReply b x h s).sul = s.sul := by
  unfold hearReply; split <;> simp

@[simp] theorem responseExpired_frame (b : Branch) (x : Exchange) (s : State) :
    (responseExpired b x s).pending = s.pending ∧ (responseExpired b x s).powered = s.powered ∧
    (responseExpired b x s).powerLosses = s.powerLosses ∧ (responseExpired b x s).pu = s.pu ∧
    (responseExpired b x s).ts = s.ts ∧ (responseExpired b x s).mu = s.mu ∧ (responseExpired b x s).sul = s.sul := by
  simp [responseExpired]

@[simp] theorem leaveWaiters_frame (t : Tag) (s : State) :
    (leaveWaiters t s).pending = s.pending ∧ (leaveWaiters t s).powered = s.powered ∧
    (leaveWaiters t s).powerLosses = s.powerLosses ∧ (leaveWaiters t s).tp = s.tp ∧ (leaveWaiters t s).dsp = s.dsp ∧
    (leaveWaiters t s).pu = s.pu ∧ (leaveWaiters t s).ports = s.ports ∧ (leaveWaiters t s).ust = s.ust ∧
    (leaveWaiters t s).iqe = s.iqe ∧ (leaveWaiters t s).ts = s.ts ∧ (leaveWaiters t s).frf = s.frf ∧
    (leaveWaiters t s).pm = s.pm ∧ (leaveWaiters t s).es = s.es ∧ (leaveWaiters t s).mu = s.mu ∧
    (leaveWaiters t s).sul = s.sul := by
  simp [leaveWaiters]

@[simp] theorem leaveHeld_frame (t : Tag) (s : State) :
    (leaveHeld t s).pending = s.pending ∧ (leaveHeld t s).powered = s.powered ∧
    (leaveHeld t s).powerLosses = s.powerLosses ∧ (leaveHeld t s).tp = s.tp ∧ (leaveHeld t s).dsp = s.dsp ∧
    (leaveHeld t s).rc = s.rc ∧ (leaveHeld t s).ports = s.ports ∧ (leaveHeld t s).ust = s.ust ∧
    (leaveHeld t s).iqe = s.iqe ∧ (leaveHeld t s).ts = s.ts ∧ (leaveHeld t s).frf = s.frf ∧
    (leaveHeld t s).pm = s.pm ∧ (leaveHeld t s).es = s.es ∧ (leaveHeld t s).mu = s.mu ∧
    (leaveHeld t s).sul = s.sul := by
  simp [leaveHeld]

@[simp] theorem leaveQueue_frame (t : Tag) (s : State) :
    (leaveQueue t s).pending = s.pending ∧ (leaveQueue t s).powered = s.powered ∧
    (leaveQueue t s).powerLosses = s.powerLosses ∧ (leaveQueue t s).tp = s.tp ∧ (leaveQueue t s).dsp = s.dsp ∧
    (leaveQueue t s).rc = s.rc ∧ (leaveQueue t s).pu = s.pu ∧ (leaveQueue t s).ust = s.ust ∧
    (leaveQueue t s).iqe = s.iqe ∧ (leaveQueue t s).ts = s.ts ∧ (leaveQueue t s).frf = s.frf ∧
    (leaveQueue t s).pm = s.pm ∧ (leaveQueue t s).es = s.es ∧ (leaveQueue t s).mu = s.mu ∧
    (leaveQueue t s).sul = s.sul := by
  unfold leaveQueue; split <;> simp

@[simp] theorem dropReference_frame (t : Tag) (s : State) :
    (dropReference t s).pending = s.pending ∧ (dropReference t s).powered = s.powered ∧
    (dropReference t s).powerLosses = s.powerLosses ∧ (dropReference t s).tp = s.tp ∧ (dropReference t s).pu = s.pu ∧
    (dropReference t s).ports = s.ports ∧ (dropReference t s).ust = s.ust ∧ (dropReference t s).ts = s.ts ∧
    (dropReference t s).frf = s.frf ∧ (dropReference t s).pm = s.pm ∧ (dropReference t s).mu = s.mu ∧
    (dropReference t s).sul = s.sul := by
  simp [dropReference]

@[simp] theorem fillRecord_frame (r : RequestFrame) (s : State) :
    (fillRecord r s).pending = s.pending ∧ (fillRecord r s).powered = s.powered ∧
    (fillRecord r s).powerLosses = s.powerLosses ∧ (fillRecord r s).tp = s.tp ∧ (fillRecord r s).rc = s.rc ∧
    (fillRecord r s).pu = s.pu ∧ (fillRecord r s).ports = s.ports ∧ (fillRecord r s).ust = s.ust ∧
    (fillRecord r s).iqe = s.iqe ∧ (fillRecord r s).ts = s.ts ∧ (fillRecord r s).frf = s.frf ∧
    (fillRecord r s).pm = s.pm ∧ (fillRecord r s).es = s.es ∧ (fillRecord r s).mu = s.mu ∧
    (fillRecord r s).sul = s.sul := by
  simp [fillRecord]

@[simp] theorem writeChunk_frame (k : Fin 32) (bs : List Byte) (s : State) :
    (writeChunk k bs s).pending = s.pending ∧ (writeChunk k bs s).powered = s.powered ∧
    (writeChunk k bs s).powerLosses = s.powerLosses ∧ (writeChunk k bs s).tp = s.tp ∧
    (writeChunk k bs s).dsp = s.dsp ∧ (writeChunk k bs s).rc = s.rc ∧ (writeChunk k bs s).ports = s.ports ∧
    (writeChunk k bs s).ust = s.ust ∧ (writeChunk k bs s).iqe = s.iqe ∧ (writeChunk k bs s).ts = s.ts ∧
    (writeChunk k bs s).frf = s.frf ∧ (writeChunk k bs s).pm = s.pm ∧ (writeChunk k bs s).es = s.es ∧
    (writeChunk k bs s).mu = s.mu ∧ (writeChunk k bs s).sul = s.sul := by
  simp [writeChunk]

@[simp] theorem completeActivation_frame (n : Nat) (s : State) :
    (completeActivation n s).pending = s.pending ∧ (completeActivation n s).powered = s.powered ∧
    (completeActivation n s).powerLosses = s.powerLosses ∧ (completeActivation n s).mu = s.mu ∧
    (completeActivation n s).sul = s.sul := by
  refine ⟨?_, ?_, ?_, ?_, ?_⟩
  · exact foldl_keeps _ State.pending (fun s t => by simp) _ _
  · exact foldl_keeps _ State.powered (fun s t => by simp) _ _
  · exact foldl_keeps _ State.powerLosses (fun s t => by simp) _ _
  · exact foldl_keeps _ State.mu (fun s t => by simp) _ _
  · exact foldl_keeps _ State.sul (fun s t => by simp) _ _

@[simp] theorem chunkArrived_frame (k : Fin 32) (n : Nat) (bs : List Byte) (s : State) :
    (chunkArrived k n bs s).pending = s.pending ∧ (chunkArrived k n bs s).powered = s.powered ∧
    (chunkArrived k n bs s).powerLosses = s.powerLosses ∧ (chunkArrived k n bs s).mu = s.mu ∧
    (chunkArrived k n bs s).sul = s.sul := by
  unfold chunkArrived; dsimp only; split <;> simp

@[simp] theorem dropFilling_frame (i : SlotNo) (s : State) :
    (dropFilling s i).pending = s.pending ∧ (dropFilling s i).powered = s.powered ∧
    (dropFilling s i).powerLosses = s.powerLosses ∧ (dropFilling s i).tp = s.tp ∧ (dropFilling s i).dsp = s.dsp ∧
    (dropFilling s i).pu = s.pu ∧ (dropFilling s i).ports = s.ports ∧ (dropFilling s i).ust = s.ust ∧
    (dropFilling s i).frf = s.frf ∧ (dropFilling s i).pm = s.pm ∧ (dropFilling s i).mu = s.mu ∧
    (dropFilling s i).sul = s.sul := by
  unfold dropFilling; split
  · dsimp only; split <;> simp
  · simp

@[simp] theorem releaseQueued_frame (t : Tag) (s : State) :
    (releaseQueued s t).pending = s.pending ∧ (releaseQueued s t).powered = s.powered ∧
    (releaseQueued s t).powerLosses = s.powerLosses ∧ (releaseQueued s t).tp = s.tp ∧
    (releaseQueued s t).dsp = s.dsp ∧ (releaseQueued s t).pu = s.pu ∧ (releaseQueued s t).ports = s.ports ∧
    (releaseQueued s t).ust = s.ust ∧ (releaseQueued s t).ts = s.ts ∧ (releaseQueued s t).frf = s.frf ∧
    (releaseQueued s t).pm = s.pm ∧ (releaseQueued s t).mu = s.mu ∧ (releaseQueued s t).sul = s.sul := by
  unfold releaseQueued; split <;> simp

@[simp] theorem breakCache_frame (s : State) :
    (breakCache s).pending = s.pending ∧ (breakCache s).powered = s.powered ∧
    (breakCache s).powerLosses = s.powerLosses ∧ (breakCache s).tp = s.tp ∧ (breakCache s).dsp = s.dsp ∧
    (breakCache s).pu = s.pu ∧ (breakCache s).ports = s.ports ∧ (breakCache s).ust = s.ust ∧
    (breakCache s).frf = s.frf ∧ (breakCache s).pm = s.pm ∧ (breakCache s).mu = s.mu ∧
    (breakCache s).sul = s.sul := by
  unfold breakCache
  refine ⟨?_, ?_, ?_, ?_, ?_, ?_, ?_, ?_, ?_, ?_, ?_, ?_⟩
  · exact (foldl_keeps _ State.pending (fun s i => by simp) _ _).trans (foldl_keeps _ State.pending (fun s i => by simp) _ _)
  · exact (foldl_keeps _ State.powered (fun s i => by simp) _ _).trans (foldl_keeps _ State.powered (fun s i => by simp) _ _)
  · exact (foldl_keeps _ State.powerLosses (fun s i => by simp) _ _).trans (foldl_keeps _ State.powerLosses (fun s i => by simp) _ _)
  · exact (foldl_keeps _ State.tp (fun s i => by simp) _ _).trans (foldl_keeps _ State.tp (fun s i => by simp) _ _)
  · exact (foldl_keeps _ State.dsp (fun s i => by simp) _ _).trans (foldl_keeps _ State.dsp (fun s i => by simp) _ _)
  · exact (foldl_keeps _ State.pu (fun s i => by simp) _ _).trans (foldl_keeps _ State.pu (fun s i => by simp) _ _)
  · exact (foldl_keeps _ State.ports (fun s i => by simp) _ _).trans (foldl_keeps _ State.ports (fun s i => by simp) _ _)
  · exact (foldl_keeps _ State.ust (fun s i => by simp) _ _).trans (foldl_keeps _ State.ust (fun s i => by simp) _ _)
  · exact (foldl_keeps _ State.frf (fun s i => by simp) _ _).trans (foldl_keeps _ State.frf (fun s i => by simp) _ _)
  · exact (foldl_keeps _ State.pm (fun s i => by simp) _ _).trans (foldl_keeps _ State.pm (fun s i => by simp) _ _)
  · exact (foldl_keeps _ State.mu (fun s i => by simp) _ _).trans (foldl_keeps _ State.mu (fun s i => by simp) _ _)
  · exact (foldl_keeps _ State.sul (fun s i => by simp) _ _).trans (foldl_keeps _ State.sul (fun s i => by simp) _ _)

/-- What the reception of a complete frame leaves as it is: everything but the Intake Queue, the counters, the fault file and the latches. -/
@[simp] theorem receiveFrame_frame (f : List Byte) (s : State) :
    (receiveFrame f s).pending = s.pending ∧ (receiveFrame f s).powered = s.powered ∧
    (receiveFrame f s).powerLosses = s.powerLosses ∧ (receiveFrame f s).dsp = s.dsp ∧ (receiveFrame f s).rc = s.rc ∧
    (receiveFrame f s).pu = s.pu ∧ (receiveFrame f s).ports = s.ports ∧ (receiveFrame f s).ust = s.ust ∧
    (receiveFrame f s).iqe = s.iqe ∧ (receiveFrame f s).ts = s.ts ∧ (receiveFrame f s).mu = s.mu ∧
    (receiveFrame f s).sul = s.sul := by
  unfold receiveFrame; (repeat' split) <;> simp

/-- What the return of the line leaves as it is, once a break that has run its time is detected (log 24). -/
@[simp] theorem returnToIdle_frame (s : State) :
    (returnToIdle s).pending = s.pending ∧ (returnToIdle s).powered = s.powered ∧
    (returnToIdle s).powerLosses = s.powerLosses ∧ (returnToIdle s).dsp = s.dsp ∧ (returnToIdle s).rc = s.rc ∧
    (returnToIdle s).pu = s.pu ∧ (returnToIdle s).ports = s.ports ∧ (returnToIdle s).ust = s.ust ∧
    (returnToIdle s).iqe = s.iqe ∧ (returnToIdle s).ts = s.ts ∧ (returnToIdle s).mu = s.mu ∧
    (returnToIdle s).sul = s.sul := by
  unfold returnToIdle; split <;> simp

/-- The Trunk Port after a complete frame: only the Intake Queue may have grown. -/
theorem receiveFrame_tp (f : List Byte) (s : State) :
    (receiveFrame f s).tp = s.tp ∨ (receiveFrame f s).tp = { s.tp with intake := s.tp.intake ++ [f] } := by
  unfold receiveFrame; (repeat' split) <;> simp

/-- The Trunk Port after a detected break. -/
theorem breakEffects_tp (s : State) : (breakEffects s).tp = s.tp.broken := by
  simp [breakEffects, freeTags]

end Sys2Proof.Machine
end

