-- ==== Sys2Proof/Laws/Management.lean ====
section
/-!
SUPPORT. The execution of a management request: what `whenCommand` and `reply` do for a request that is ready.
-/

namespace Sys2Proof.Machine

theorem managementHead_of_ready {s : State} {t : Tag} {code : Byte} {params : List Byte} (h : Ready s t code params) :
    managementHead s = some t := by
  obtain ⟨_, hh, hq, _⟩ := h
  unfold managementHead
  cases hqq : s.mu.queue with
  | nil => simp [hqq] at hq
  | cons e l =>
    simp only [hqq, List.head?_cons, Option.some.injEq] at hq
    simp [hh, hq]

/-- A ready request is executed by the row of its code. -/
theorem whenCommand_of_ready {s : State} {t : Tag} {code : Byte} {params : List Byte} (h : Ready s t code params)
    {p : Nat → Bool} (hp : p code.toNat = true) (body : Tag → List Byte → State → State) :
    whenCommand p body s = body t params s := by
  unfold whenCommand
  rw [managementHead_of_ready h]
  obtain ⟨_, _, _, _, hc, hpar⟩ := h
  simp [hc, hp, hpar]

/-- An event with power is the state of its body. -/
theorem event_of_powered {s : State} (h : s.powered = true) (body : State) : event s body = .next body := by
  simp [event, h]

/-- The reply to a management request, in full. -/
theorem reply_eq_answered {s : State} {t : Tag} (h : (s.tag t).unit = 0) (r : ResultCode) (d : List Byte) :
    reply t r d s = answered t r d s := by
  have hu : updatesStatus (s.tag t) .done = false := by simp [updatesStatus, isUnit, h]
  unfold reply endTransaction answered
  simp only [statusUpdate, hu]
  simp [appendReply, dropManagementHead, State.setTag]

end Sys2Proof.Machine
end

