-- ==== Sys2Proof/Laws/Memory.lean ====
section
/-!
SUPPORT. The bytes of the Table Store: every operation keeps the canonical form, and what a byte reads as after each operation.
-/

namespace Sys2Proof.Machine

theorem Memory.wf_nil : Memory.wf [] := by simp [Memory.wf]

theorem Memory.wf_filter {m : List Host.Cell} (p : Host.Cell → Bool) (h : Memory.wf m) : Memory.wf (m.filter p) := by
  refine ⟨h.1.filter _, fun c hc => h.2 c (List.mem_of_mem_filter hc)⟩

theorem mem_putCell {a : Nat} {v : Byte} {m : List Host.Cell} {c : Host.Cell} (h : c ∈ putCell a v m) :
    c = (a, v) ∨ c ∈ m := by
  induction m with
  | nil => simpa [putCell] using h
  | cons d m ih =>
    simp only [putCell] at h
    split at h
    · simpa using h
    · split at h
      · rcases List.mem_cons.1 h with h | h
        · exact .inl h
        · exact .inr (List.mem_cons_of_mem _ h)
      · rcases List.mem_cons.1 h with h | h
        · exact .inr (by simp [h])
        · rcases ih h with h | h
          · exact .inl h
          · exact .inr (List.mem_cons_of_mem _ h)

theorem putCell_pairwise {a : Nat} {v : Byte} {m : List Host.Cell} (h : m.Pairwise (fun c d => c.1 < d.1)) :
    (putCell a v m).Pairwise (fun c d => c.1 < d.1) := by
  induction m with
  | nil => simp [putCell]
  | cons d m ih =>
    rw [List.pairwise_cons] at h
    simp only [putCell]
    split
    · rename_i hlt
      refine List.pairwise_cons.2 ⟨?_, List.pairwise_cons.2 h⟩
      intro c hc
      rcases List.mem_cons.1 hc with rfl | hc
      · exact hlt
      · exact Nat.lt_trans hlt (h.1 c hc)
    · split
      · rename_i heq
        refine List.pairwise_cons.2 ⟨?_, h.2⟩
        intro c hc
        simpa [heq] using h.1 c hc
      · refine List.pairwise_cons.2 ⟨?_, ih h.2⟩
        intro c hc
        rcases mem_putCell hc with rfl | hc
        · simp only; omega
        · exact h.1 c hc

theorem Memory.wf_writeByte {m : List Host.Cell} (a : Nat) (v : Byte) (h : Memory.wf m) :
    Memory.wf (writeByte m a v) := by
  unfold writeByte
  split
  · split
    · exact Memory.wf_filter _ h
    · rename_i ha hv
      refine ⟨putCell_pairwise h.1, fun c hc => ?_⟩
      rcases mem_putCell hc with rfl | hc
      · exact ⟨ha, hv⟩
      · exact h.2 c hc
  · exact h

theorem Memory.wf_programBytes (chosen : Nat → Bool) {m : List Host.Cell} (a : Nat) (bs : List Byte)
    (h : Memory.wf m) : Memory.wf (programBytes chosen m a bs) := by
  induction bs generalizing m a with
  | nil => exact h
  | cons b bs ih =>
    simp only [programBytes]
    apply ih
    split
    · exact Memory.wf_writeByte _ _ h
    · exact h

theorem Memory.wf_eraseBytes (chosen : Nat → Bool) {m : List Host.Cell} (k : Nat) (h : Memory.wf m) :
    Memory.wf (eraseBytes chosen m k) := Memory.wf_filter _ h

/-- Every operation of the store keeps the canonical form. -/
theorem Memory.wf_applyOp (chosen : Nat → Bool) {m : List Host.Cell} (o : StoreOp) (h : Memory.wf m) :
    Memory.wf (applyOp chosen m o) := by
  cases o
  · exact Memory.wf_programBytes _ _ _ h
  · exact Memory.wf_eraseBytes _ _ h

theorem readByte_putCell (m : List Host.Cell) (a b : Nat) (v : Byte) :
    readByte (putCell a v m) b = if b = a then v else readByte m b := by
  induction m with
  | nil => simp [putCell, readByte, eq_comm]
  | cons c m ih =>
    simp only [putCell]
    split
    · simp only [readByte, eq_comm]
    · split
      · simp only [readByte]
        by_cases h : b = a
        · simp [h]
        · simp_all [eq_comm]
      · simp only [readByte, ih]
        by_cases h : c.1 = b
        · have : b ≠ a := by omega
          simp [h, this]
        · simp [h]

theorem readByte_filter_ne (m : List Host.Cell) (a b : Nat) :
    readByte (m.filter (fun c => c.1 ≠ a)) b = if b = a then Config.erasedValue else readByte m b := by
  induction m with
  | nil => simp [readByte]
  | cons c m ih =>
    by_cases h : c.1 = a
    · rw [List.filter_cons_of_neg (by simp [h]), ih]
      by_cases hb : b = a
      · simp [hb]
      · simp only [readByte, hb, if_false, h]
        rw [if_neg (fun e => hb e.symm)]
    · rw [List.filter_cons_of_pos (by simp [h])]
      simp only [readByte, ih]
      by_cases hc : c.1 = b
      · have : b ≠ a := by omega
        simp [hc, this]
      · simp [hc]

/-- A byte of the store after a write. -/
theorem readByte_writeByte (m : List Host.Cell) {a : Nat} (b : Nat) (v : Byte) (h : a < Config.storeBytes) :
    readByte (writeByte m a v) b = if b = a then v else readByte m b := by
  unfold writeByte
  rw [if_pos h]
  split
  · rename_i hv
    rw [readByte_filter_ne, hv]
  · rw [readByte_putCell]

/-- A byte outside the write is unchanged. -/
theorem readByte_writeByte_ne (m : List Host.Cell) {a b : Nat} (v : Byte) (h : b ≠ a) :
    readByte (writeByte m a v) b = readByte m b := by
  by_cases ha : a < Config.storeBytes
  · simp [readByte_writeByte m b v ha, h]
  · simp [writeByte, ha]

/-- A byte before the programmed ones is unchanged. -/
theorem readByte_programBytes_before (chosen : Nat → Bool) (m : List Host.Cell) (a x : Nat) (bs : List Byte)
    (h : x < a) : readByte (programBytes chosen m a bs) x = readByte m x := by
  induction bs generalizing m a with
  | nil => rfl
  | cons b bs ih =>
    simp only [programBytes]
    rw [ih _ _ (by omega)]
    split
    · exact readByte_writeByte_ne _ _ (by omega)
    · rfl

/-- A byte of the store after a program (R124): the AND where the program names it and `chosen` says so, and otherwise as before. -/
theorem readByte_programBytes (chosen : Nat → Bool) (m : List Host.Cell) (a x : Nat) (bs : List Byte)
    (h : a + bs.length ≤ Config.storeBytes) :
    readByte (programBytes chosen m a bs) x =
      if a ≤ x ∧ x < a + bs.length ∧ chosen x = true then readByte m x &&& bs.getD (x - a) 0 else readByte m x := by
  induction bs generalizing m a with
  | nil =>
    simp only [programBytes]
    rw [if_neg (by simp; omega)]
  | cons b bs ih =>
    simp only [List.length_cons] at h
    by_cases hx : x = a
    · subst hx
      simp only [programBytes]
      rw [readByte_programBytes_before _ _ _ _ _ (by omega)]
      by_cases hc : chosen x = true
      · simp [hc, readByte_writeByte m (a := x) x _ (by omega)]
      · simp [hc]
    · simp only [programBytes]
      rw [ih _ _ (by omega)]
      have hread : readByte (if chosen a = true then writeByte m a (readByte m a &&& b) else m) x = readByte m x := by
        split
        · exact readByte_writeByte_ne _ _ hx
        · rfl
      rw [hread]
      by_cases hlt : a < x
      · have e : x - a = (x - (a + 1)) + 1 := by omega
        have : (a + 1 ≤ x ∧ x < a + 1 + bs.length ∧ chosen x = true) ↔
            (a ≤ x ∧ x < a + (bs.length + 1) ∧ chosen x = true) := by constructor <;> (intro h; refine ⟨?_, ?_, h.2.2⟩ <;> omega)
        simp only [List.length_cons, this, e, List.getD_cons_succ]
      · have h1 : ¬ (a + 1 ≤ x ∧ x < a + 1 + bs.length ∧ chosen x = true) := by omega
        have h2 : ¬ (a ≤ x ∧ x < a + (bs.length + 1) ∧ chosen x = true) := by omega
        simp only [List.length_cons]
        rw [if_neg h1, if_neg h2]

/-- A byte of the store after an erase (R124): the erased value in the sector where `chosen` says so, and otherwise as before. -/
theorem readByte_eraseBytes (chosen : Nat → Bool) (m : List Host.Cell) (k x : Nat) :
    readByte (eraseBytes chosen m k) x =
      if x / Config.sectorBytes = k ∧ chosen x = true then Config.erasedValue else readByte m x := by
  unfold eraseBytes
  induction m with
  | nil => simp [readByte]
  | cons c m ih =>
    by_cases h : c.1 / Config.sectorBytes = k ∧ chosen c.1 = true
    · rw [List.filter_cons_of_neg (by simp [h.1, h.2]), ih]
      by_cases hc : c.1 = x
      · subst hc; simp [h]
      · simp [readByte, hc]
    · rw [List.filter_cons_of_pos (by
        simp only [Bool.not_eq_true', Bool.and_eq_false_iff, beq_eq_false_iff_ne]
        by_cases hk : c.1 / Config.sectorBytes = k
        · right; simpa [hk] using h
        · left; exact hk)]
      simp only [readByte, ih]
      by_cases hc : c.1 = x
      · subst hc; simp [h]
      · simp [hc]

end Sys2Proof.Machine
end

