-- ==== Sys2Proof/Laws/Tags.lean ====
section
/-!
SUPPORT. What the ends of transactions leave of a record: its unit. The unit of a request decides whether its end reaches the Unit Status Table, so every statement that replies after other transactions have ended needs it.
-/

namespace Sys2Proof.Machine

theorem unit_setTag (t v : Tag) (r : TagRecord) (s : State) (h : r.unit = (s.tag t).unit) :
    ((s.setTag t r).tag v).unit = (s.tag v).unit := by
  simp only [State.tag, State.setTag, Vector.getElem_set]
  split <;> simp_all [State.tag]

/-- The records after the end of a transaction, in full (R20). -/
theorem endTransaction_tags (t : Tag) (o : OutcomeCode) (st : Option Byte) (w : Bool) (p : List Byte) (s : State) :
    (endTransaction t o st w p s).dsp.tags =
      s.dsp.tags.set t.val { s.tag t with state := .replying, outcome := some o, members := Vector.replicate 4 none } := by
  unfold endTransaction
  simp [State.setTag, appendReply, statusUpdate]
  split <;> simp

theorem unit_endTransaction (t v : Tag) (o : OutcomeCode) (st : Option Byte) (w : Bool) (p : List Byte) (s : State) :
    ((endTransaction t o st w p s).tag v).unit = (s.tag v).unit := by
  simp only [State.tag, endTransaction_tags, Vector.getElem_set]
  split <;> simp_all

theorem unit_endPlain (t v : Tag) (o : OutcomeCode) (s : State) : ((endPlain t o s).tag v).unit = (s.tag v).unit :=
  unit_endTransaction ..

theorem unit_endUnit (t v : Tag) (c : EndCause) (st : Option Byte) (s : State) :
    ((endUnit t c st s).tag v).unit = (s.tag v).unit := by
  unfold endUnit
  simp only [unit_endTransaction]
  have hdsp : ∀ o, (recordEndFault t o (releaseSlot (s.tag t).slot (s.setTag t { s.tag t with slot := none }))).dsp =
      (s.setTag t { s.tag t with slot := none }).dsp := by simp
  rw [show ∀ u : State, u.tag v = u.dsp.tags[v.val] from fun _ => rfl, hdsp]
  exact unit_setTag t v _ s rfl

theorem unit_decideBroadcast (t v : Tag) (s : State) : ((decideBroadcast t s).tag v).unit = (s.tag v).unit := by
  unfold decideBroadcast endPlain
  dsimp only
  repeat' split
  all_goals first | rfl | rw [unit_endTransaction]

theorem unit_endMember (t v : Tag) (b : Branch) (ok : Bool) (s : State) :
    ((endMember t b ok s).tag v).unit = (s.tag v).unit := by
  unfold endMember
  rw [unit_decideBroadcast]
  exact unit_setTag t v _ s rfl

theorem unit_dropQueue (b : Branch) (v : Tag) (s : State) : ((dropQueue b s).tag v).unit = (s.tag v).unit := by
  unfold dropQueue
  rw [foldl_keeps (fun u e => dropEntry b e u) (fun u => (u.tag v).unit)]
  · rfl
  · intro u e
    unfold dropEntry
    split
    · exact unit_endUnit ..
    · exact unit_endMember ..

end Sys2Proof.Machine
end

