-- ==== Sys2Proof/WellFormed.lean ====
section
/-!
DEFINITION. Which commands are well formed. Branch, slot and byte ranges are carried by their types; what is left is that a frame heard on a branch is a frame, so it has a byte.
-/

namespace Sys2Proof

/-- A command is well formed: a complete frame heard on a branch (R83) and the echo of a command frame (R79) hold at least one byte. Every other operand is any value of its type. -/
def Instr.wf : Instr → Bool
  | .branchFrameHeard _ bytes => !bytes.isEmpty
  | .branchTransmissionEnd _ heard => !heard.isEmpty
  | _ => true

end Sys2Proof
end

