-- ==== Sys2Proof/Tests/Slice0.lean ====
section
/-!
SUPPORT. The model's own tests: the smoke test of `Instr.wf`, one or two small steps per command, and for every statement of the Certificates with hypotheses a state and operands that meet them, at the boundaries of each clause.
-/

set_option maxRecDepth 100000

namespace Sys2Proof.Tests
open Sys2Proof.Machine

/-! ## States to test on -/

/-- The bridge after a load with every port enabled and auto-suspend set: the receiver RECEIVING, the read port free. -/
def running : State :=
  { State.reset with
    tp := { TrunkPort.reset with receiver := .receiving }
    ports := Vector.replicate 4 { BranchPort.reset with state := .enabled }
    ts := { TableStore.reset with reading := none }
    sul := { StartUpLoader.reset with state := .idle } }

/-- The bridge with the record under one tag replaced. -/
def withRecord (t : Tag) (r : TagRecord) (s : State) : State :=
  { s with dsp := { s.dsp with tags := s.dsp.tags.set t.val r } }

/-- A management request under tag 3. -/
def request (code : Byte) (params : List Byte) : TagRecord :=
  { TagRecord.blank with state := .mgmt, op := some .write, channel := code, payload := params }

/-- A management request with a code and parameters at the head of the queue, under tag 3. -/
def asking (code : Byte) (params : List Byte) (s : State) : State :=
  { withRecord 3 (request code params) s with mu := { queue := [.waiting 3], halted := none } }

/-- The request on the running bridge. -/
def ready (code : Byte) (params : List Byte) : State := asking code params running

/-- The state a command answers with. -/
def after (o : Host.Outcome State Fault Refusal) : State :=
  match o with
  | .next s => s
  | _ => State.reset

/-- The responses that stand after a command: tag, outcome code and payload. -/
def replies (o : Host.Outcome State Fault Refusal) : List (Tag × Byte × List Byte) :=
  (after o).tp.replies.map fun r => (r.tag, r.outcome.code, r.payload)

/-- The bridge with one frame in the Intake Queue. -/
def dispatching (bytes : List Byte) (s : State) : State :=
  { s with tp := { s.tp with intake := [withCheck bytes] } }

/-- A route to branch 1, unit 5, timeout class 2, watched. -/
def route : Route :=
  { branch := 1, physUnit := 5, service := .inService, policyClass := 0, offset := 0, timeoutClass := 2
    conditioning := 7, absorb := true, watch := true }

/-- The bridge with one slot of the Route Cache replaced. -/
def withSlot (i : SlotNo) (c : CacheSlot) (order : List SlotNo) (s : State) : State :=
  { s with rc := { slots := s.rc.slots.set i.val c, recency := order } }

/-- A routed READ of two bytes on unit 17, in a state, holding slot 4. -/
def routed (st : TagState) : TagRecord :=
  { TagRecord.blank with
    state := st, op := some .read, unit := 17, channel := 6, length := 2, slot := some 4
    facts := some { branch := 1, physUnit := 5, physChannel := 6, timeoutClass := 2 } }

/-- The exchange of that READ, in its first attempt. -/
def exchange : Exchange :=
  { kind := .unit, orphan := false, tag := some 2, physUnit := 5, op := .read, physChannel := 6, length := 2
    payload := [], timeoutClass := some 2, slot := some 4, attempt := 1, seq := 0, last := false }

/-- A member exchange of the broadcast under tag 2. -/
def memberExchange : Exchange :=
  { exchange with kind := .member, physUnit := 63, op := .write, length := 1, payload := [9], timeoutClass := none, slot := none }

/-- The bridge with tag 2 ACTIVE on branch 1 and its exchange in a state. -/
def exchanging (x : ExchangeState) (watchdog timer : Option Nat) : State :=
  { withSlot 4 (.valid 17 route 1) [4] (withRecord 2 (routed .active) running) with
    ports :=
      running.ports.set 1
        { BranchPort.reset with state := .enabled, exchange := x, nextSeq := 1, watchdog := watchdog, responseTimer := timer } }

/-- The bridge with the broadcast under tag 2 being sent on branch 1. -/
def broadcasting : State :=
  withRecord 2
    { TagRecord.blank with
      state := .bcast, op := some .write, unit := 255, length := 1, payload := [9], members := #v[none, some .pending, none, none] }
    (exchanging (.sending memberExchange) (some 3000) none)

/-- The bridge with a unit entry and a member entry queued on branch 1. -/
def queued : State :=
  { withRecord 5 { TagRecord.blank with state := .bcast, op := some .write, unit := 255, length := 1, payload := [9], members := #v[none, some .pending, none, none] }
      (withSlot 4 (.valid 17 route 1) [4] (withRecord 2 (routed .queued) running)) with
    ports :=
      running.ports.set 1
        { BranchPort.reset with state := .enabled, queue := [{ tag := 2, kind := .unit }, { tag := 5, kind := .member }] } }

/-- The Table Store with operations and a phase. -/
def storing (active suspended : Option Operation) (phase : SuspendPhase) (s : State) : State :=
  { s with ts := { s.ts with active := active, suspended := suspended, phase := phase } }

/-- A running erase of sector 2. -/
def erase2 : Operation := { op := .erase 2, ran := 5 }

/-- A running program of two bytes in sector 3. -/
def program3 : Operation := { op := .program 3072 [0x0F, 0xF0], ran := 0 }

/-- The bridge with a read in progress. -/
def reading (reader : Reader) (bytes : List Byte) (s : State) : State :=
  { s with ts := { s.ts with reading := some { reader := reader, bytes := bytes } } }

/-- A fill of unit 17 in slot 4, awaited by tag 2. -/
def filling (mark : Bool) : State :=
  withSlot 4 (.filling 17 mark [2]) [] (withRecord 2 { routed .lookup with slot := none, facts := none } running)

/-- The stored entry of `route`. -/
def entry : List Byte := [0xA5, 1, 5, 1, 0, 0, 2, 7, 3] ++ List.replicate 7 0

/-- A configuration record with a good check: all ports enabled, the rest as the defaults but the mask. -/
def record : List Byte :=
  withCheck ([0x0F, 0, 1, 1, 1, 1, 4, 4, 4, 4, 10, 25, 50, 200, 0, 3, 0x80, 1, 0, 7] ++ List.replicate 42 0)

/-! ## Well-formed commands, and words -/

theorem test_wf_refuses_an_empty_branch_frame : (Instr.branchFrameHeard 0 []).wf = false := by decide

theorem test_wf_refuses_an_empty_echo : (Instr.branchTransmissionEnd 3 []).wf = false := by decide

theorem test_wf_accepts_the_others :
    (Instr.branchFrameHeard 0 [0]).wf = true ∧ (Instr.branchTransmissionEnd 0 [0]).wf = true ∧
    (Instr.frameCompletion ⟨[], 0⟩).wf = true ∧ Instr.dispatch.wf = true := by decide

theorem test_no_word_spells_a_command (s : State) (n w : Nat) :
    decodeTableWord n w = none ∧ s.withFetchWord n w = s := ⟨rfl, rfl⟩

/-! ## Layouts -/

theorem test_crc_of_the_digits : crc [49, 50, 51, 52, 53, 54, 55, 56, 57] = 10673 := by decide

theorem test_route_entry_decodes : decodeRoute entry = .present route := by decide

theorem test_route_entry_is_absent_or_malformed :
    decodeRoute (0xFF :: entry.tail) = .absent ∧ decodeRoute (0 :: entry.tail) = .absent ∧
    decodeRoute (1 :: entry.tail) = .malformed ∧ decodeRoute (entry.set 2 63) = .malformed ∧
    decodeRoute (entry.set 1 4) = .malformed := by decide

theorem test_record_is_judged :
    (decodeRecord record).map (·.mask) = some 0x80 ∧
    (decodeRecord record).map (·.values.protection) = some (some (0, 7)) ∧
    decodeRecord (record.set 6 0) = none ∧ decodeRecord (List.replicate 64 0xFF) = none := by decide

theorem test_reply_is_judged :
    judgeReply exchange (withCheck [0x60, 5, 0, 9, 2, 1, 2]) = .wellFormed 0 9 [1, 2] ∧
    judgeReply exchange (withCheck [0x61, 5, 0, 9, 2, 1, 2]) = .late ∧
    judgeReply exchange (withCheck [0x60, 6, 0, 9, 2, 1, 2]) = .bad ∧
    judgeReply exchange (withCheck [0x60, 5, 1, 9, 0]) = .wellFormed 1 9 [] := by decide

/-! ## Power and the trunk line -/

theorem test_powerLoss_then_powerOn :
    (after (exec .powerLoss running)).powered = false ∧
    (after (exec .powerOn (after (exec .powerLoss running)))).sul.state = .reading 0 none 0 := by decide

theorem test_powerLoss_without_power : after (exec .powerLoss { running with powered := false }) = { running with powered := false } := rfl

theorem test_powerOn_begins_the_load :
    (after (exec .powerOn { running with powered := false })).ts.reading.map (·.reader) = some .loader := by decide

theorem test_line_enters_break :
    (after (exec (.lineEntersBreak ⟨[1, 2], 0⟩) running)).tp.reception = some [1, 2] ∧
    (after (exec (.lineEntersBreak ⟨[], 0⟩) running)).tp.breakTimer = some 0 := by decide

theorem test_a_cut_frame_is_judged_at_the_return :
    ((after (exec .lineReturnsToIdle (after (exec (.lineEntersBreak ⟨[1, 2, 3], 0⟩) running)))).frf.records[0]).map (·.kind) =
      some .frameCheck ∧
    (after (exec .lineReturnsToIdle (after (exec (.lineEntersBreak ⟨withCheck [9], 0⟩) running)))).tp.intake = [withCheck [9]] := by
  decide

theorem test_a_frame_begun_before_the_receiver_opened_is_lost :
    after (exec (.frameCompletion ⟨withCheck [9], 1⟩) running) = running ∧
    (after (exec (.frameCompletion ⟨withCheck [9], 1⟩) (tick running))).tp.intake = [withCheck [9]] ∧
    (after (exec (.lineEntersBreak ⟨[1], 1⟩) running)).tp.reception = none := by decide

theorem test_line_returns :
    (after (exec .lineReturnsToIdle { running with tp := { running.tp with lineInBreak := true, receiver := .inBreak } })).tp.receiver =
      .receiving := by decide

/-- A line held in break with the break timer running, over work of every kind. -/
def breaking : State := { queued with tp := { queued.tp with lineInBreak := true, breakTimer := some 200 } }

theorem test_trunk_break_frees :
    (after (exec .trunkBreak breaking)).slot 4 = .valid 17 route 0 ∧
    ((after (exec .trunkBreak breaking)).port 1).queue = [] ∧
    ((after (exec .trunkBreak breaking)).tag 2).state = .free ∧
    (after (exec .trunkBreak breaking)).tp.receiver = .inBreak := by decide

theorem test_a_break_is_detected_at_200_us :
    after (exec .trunkBreak { breaking with tp := { breaking.tp with breakTimer := some 199 } }) =
      { breaking with tp := { breaking.tp with breakTimer := some 199 } } ∧
    ((after (exec .lineReturnsToIdle breaking)).tag 2).state = .free ∧
    (after (exec .lineReturnsToIdle breaking)).tp.receiver = .receiving := by decide

theorem test_trunk_break_makes_an_orphan :
    ((after (exec .trunkBreak
      { exchanging (.sending exchange) (some 9) none with
        tp := { running.tp with lineInBreak := true, breakTimer := some 200 } })).port 1).exchange =
      .sending { exchange with orphan := true, last := true, tag := none } := by decide

theorem test_frame_is_appended :
    ((after (exec (.frameCompletion ⟨withCheck [0x10, 0, 2, 0, 0], 0⟩) running)).tp.intake).length = 1 := by decide

theorem test_frame_is_refused :
    ((after (exec (.frameCompletion ⟨[1, 2, 3], 0⟩) running)).frf.records[0]).map (·.kind) = some .frameCheck := by decide

theorem test_transmission :
    (after (exec .startOfTransmission
      { running with
        tp := { running.tp with replies := [{ tag := 3, unit := 17, outcome := .done, status := some 9, payload := [1] }] } })).tp.transmitter =
      some (withCheck [0x23, 17, 0, 0x40, 9, 1, 1]) := by decide

/-- A reply whose frame is being sent. -/
def sending : State :=
  { withRecord 3 { request 27 [] with state := .replying } running with
    tp :=
      { running.tp with
        transmitter := some [1], replies := [{ tag := 3, unit := 0, outcome := .done, status := none, payload := [0] }] } }

theorem test_transmission_ends : ((after (exec .transmissionEnd sending)).tag 3).state = .free := by decide

theorem test_soft_reset_follows :
    (after (exec .transmissionEnd { sending with mu := { queue := [], halted := some 3 } })).sul.state = .reading 0 none 0 ∧
    (after (exec .transmissionEnd { sending with mu := { queue := [], halted := some 3 } })).tp.receiver = .silent := by
  decide

/-! ## Dispatch, lookups and fills -/

theorem test_query_last : replies (exec .dispatch (dispatching [0x15, 17, 4, 0, 0] running)) = [(5, 1, [0xFF, 0])] := by
  decide

theorem test_bad_request : replies (exec .dispatch (dispatching [0x15, 250, 4, 0, 0] running)) = [(5, 4, [])] := by
  decide

theorem test_fill_completes :
    ((after (exec .fillCompletion (reading (.fill 4) entry (filling false)))).port 1).queue = [{ tag := 2, kind := .unit }] ∧
    (after (exec .fillCompletion (reading (.fill 4) entry (filling false)))).slot 4 = .valid 17 route 1 := by decide

theorem test_marked_fill_is_read_again :
    (after (exec .fillCompletion (reading (.fill 4) entry (filling true)))).ts.reading.map (·.reader) = some (.fill 4) := by
  decide

theorem test_fill_refusal :
    replies (exec (.fillRefusal 4) { filling true with ts := { (filling true).ts with refusedFills := [4] } }) =
      [(2, 6, [])] := by decide

/-! ## Branch ports -/

theorem test_take_head :
    ((after (exec (.takeHead 1) queued)).port 1).exchange = .sending exchange ∧
    ((after (exec (.takeHead 1) queued)).tag 2).state = .active := by decide

theorem test_good_echo :
    ((after (exec (.branchTransmissionEnd 1 (commandFrame exchange)) (exchanging (.sending exchange) (some 9) none))).port 1).responseTimer =
      some 1000 := by decide

theorem test_good_echo_of_a_member :
    replies (exec (.branchTransmissionEnd 1 (commandFrame memberExchange)) broadcasting) = [(2, 0, [])] := by decide

theorem test_watchdog :
    ((after (exec (.transmitWatchdogExpiry 1) (exchanging (.sending exchange) (some 0) none))).port 1).state = .shutDown ∧
    replies (exec (.transmitWatchdogExpiry 1) (exchanging (.sending exchange) (some 0) none)) = [(2, 7, [])] := by
  decide

theorem test_timeout_is_retried :
    ((after (exec (.responseTimerExpiry 1) (exchanging (.waiting exchange) none (some 0)))).port 1).exchange =
      .sending { exchange with attempt := 2, seq := 1 } := by decide

theorem test_timeout_ends :
    replies (exec (.responseTimerExpiry 1) (exchanging (.waiting { exchange with attempt := 2 }) none (some 0))) =
      [(2, 8, [])] := by decide

theorem test_reply_ends :
    replies (exec (.branchFrameHeard 1 (withCheck [0x60, 5, 0, 9, 2, 1, 2])) (exchanging (.waiting exchange) none (some 9))) =
      [(2, 0, [1, 2])] := by decide

theorem test_late_reply :
    (after (exec (.branchFrameHeard 1 [0]) running)).pm.live[(Counter.branch 1 .lateReplies).place.val] = 1 := by decide

/-! ## The Table Store's events, activation, loading and invalidation -/

theorem test_operation_completes :
    readByte (after (exec .operationCompletion (storing (some program3) none .noSuspension running))).ts.contents 3072 = 0x0F ∧
    (after (exec .operationCompletion (storing (some program3) none .noSuspension running))).es.storeDone = true := by
  decide

theorem test_suspend_takes_effect :
    (after (exec .suspendEffective (storing (some erase2) none (.suspending .management) running))).ts.suspended = some erase2 := by
  decide

theorem test_holdoff_expires :
    (after (exec .holdoffExpiry { storing (some erase2) none .noSuspension running with
      ts := { (storing (some erase2) none .noSuspension running).ts with holdoff := some 0 } })).ts.holdoff = none := by
  decide

/-- A STORE-READ in execution whose read is in progress. -/
def storeReading : State :=
  { reading .storeRead [7, 8] (ready 22 [0, 0, 2]) with mu := { queue := [.executing (some 3)], halted := none } }

theorem test_store_read_completes : replies (exec .storeReadCompletion storeReading) = [(3, 0, [0, 7, 8])] := by
  decide

/-- An activation whose last chunk is being read. -/
def activating : State :=
  { reading .chunk (List.replicate 64 2) running with pu := { running.pu with activation := .running 31 5 } }

theorem test_activation_completes :
    (after (exec .chunkCompletion activating)).pu.activation = .idle ∧
    (after (exec .chunkCompletion activating)).pu.generation = 1 ∧
    (after (exec .chunkCompletion activating)).pu.undecodable = 5 := by decide

/-- The loader's last read with a valid record. -/
def loading (k : Fin 33) (r : Option LoadedRecord) : State :=
  { reading .loader (List.replicate 64 0) State.reset with sul := { StartUpLoader.reset with state := .reading k r 0 } }

theorem test_load_is_applied :
    (after (exec .loaderReadCompletion (loading 32 (decodeRecord record)))).tp.receiver = .receiving ∧
    ((after (exec .loaderReadCompletion (loading 32 (decodeRecord record)))).port 3).state = .enabled := by decide

theorem test_load_of_the_defaults :
    ((after (exec .loaderReadCompletion (loading 32 none))).frf.records[0]).map (·.kind) = some .configInvalid := by
  decide

/-- The running bridge whose interval timer has run out. -/
def intervalOver : State := { running with pm := { running.pm with interval := 0 } }

theorem test_interval_expires :
    (after (exec .intervalTimerExpiry intervalOver)).pm.bank.number = 1 ∧
    (after (exec .intervalTimerExpiry running)).pm.bank.number = 0 := by decide

/-- The engine with one descriptor at its head. -/
def processing (d : Descriptor) : State :=
  withSlot 4 (.valid 17 route 1) [4] { running with iqe := { running.iqe with queue := [d], state := .running } }

/-- A descriptor with notify set. -/
def descriptor (kind first count : Byte) : Descriptor := { kind := kind, first := first, count := count, notify := true, seq := 9 }

theorem test_unit_is_invalidated :
    (after (exec .processingEvent (processing (descriptor 1 17 0)))).slot 4 = .stale 17 route 1 ∧
    (after (exec .processingEvent (processing (descriptor 1 17 0)))).iqe.state = .idle := by decide

theorem test_fence_waits_and_malformed_stops :
    (after (exec .processingEvent (withSlot 4 (.stale 17 route 1) [] (processing (descriptor 4 0 0))))).iqe.state = .waitingFence ∧
    (after (exec .processingEvent (processing (descriptor 9 0 0)))).iqe.state = .error := by decide

/-! ## Management commands -/

theorem test_identify :
    replies (exec .identify (ready 0 [])) =
      [(3, 0, [0, 0x49, 0x57, 0x04, 0x16, 0x01, 16, 32, 4, 4, 8, 16, 4, 16, 32, 8])] := by decide

theorem test_readConfig :
    replies (exec .readConfig (ready 1 [])) =
      [(3, 0, [0, 0, 0, 1, 1, 1, 1, 4, 4, 4, 4, 10, 25, 50, 200, 0, 3, 0, 0, 0, 0, 1, 0])] := by decide

theorem test_setConfig : (after (exec .setConfig (ready 2 [0x11, 3]))).config.retryLimit = #v[1, 3, 1, 1] := by decide

theorem test_setConfig_is_judged_whole : replies (exec .setConfig (ready 2 [0x11, 3, 0x14, 0])) = [(3, 0, [2])] := by decide

theorem test_events : replies (exec .events (latchStoreDone (ready 3 []))) = [(3, 0, [0, 0x20, 0])] := by decide

theorem test_setEventMask : (after (exec .setEventMask (ready 4 [0x55]))).es.mask = 0x55 := by decide

/-- One pending TAG-REUSE fault. -/
def faulty (code : Byte) (params : List Byte) : State :=
  recordFault { FaultRecord.plain .tagReuse with tag := some 4 } (ready code params)

theorem test_faultRead :
    replies (exec .faultRead (faulty 5 [])) = [(3, 0, [0, 0, 0, 1, 2, 0, 0xF4, 0, 0])] := by decide

theorem test_faultClear : replies (exec .faultClear (faulty 6 [0])) = [(3, 0, [0, 0, 0])] := by decide

theorem test_changesRead :
    replies (exec .changesRead { ready 7 [] with ust := { UnitStatusTable.reset with changes := [17, 18] } }) =
      [(3, 0, [0, 0, 2, 0, 17, 18])] := by decide

theorem test_unitStatusRead : replies (exec .unitStatusRead (ready 8 [239])) = [(3, 0, [0, 239, 0xFF, 0, 0])] := by decide

theorem test_countersRead :
    replies (exec .countersRead (ready 9 [4])) = [(3, 0, [0, 4, 0, 0, 0, 0, 0, 0, 0, 0, 0, 0, 0, 0])] := by decide

theorem test_snapshot : replies (exec .snapshot (ready 10 [])) = [(3, 0, [0, 1])] := by decide

theorem test_portControlEnable :
    ((after (exec .portControlEnable { ready 11 [2, 1] with ports := Vector.replicate 4 BranchPort.reset })).port 2).state = .enabled := by
  decide

theorem test_portControlDisable :
    replies (exec .portControlDisable (asking 11 [1, 2] queued)) =
      [(2, 7, []), (5, 7, []), (3, 0, [0, 0, 0, 0, 0, 0, 0, 0, 0, 0, 0, 0, 0])] := by decide

theorem test_portControlReport :
    replies (exec .portControlReport (asking 11 [1, 3] queued)) = [(3, 0, [0, 1, 0, 0, 0, 0, 2, 2, 5, 0, 0, 0, 0])] := by
  decide

theorem test_cancel :
    replies (exec .cancel (asking 12 [2] queued)) = [(2, 12, []), (3, 0, [0])] ∧
    replies (exec .cancel (ready 12 [3])) = [(3, 0, [8])] := by decide

theorem test_queueInvalidation :
    replies (exec .queueInvalidation (ready 13 [4, 0, 0, 1])) = [(3, 0, [0, 0, 1, 15])] ∧
    (after (exec .queueInvalidation (ready 13 [4, 0, 0, 1]))).iqe.state = .running := by decide

theorem test_iqStatus :
    replies (exec .iqStatus (asking 14 [] (processing (descriptor 1 17 0)))) =
      [(3, 0, [0, 1, 1, 9, 0, 0, 0, 0, 0, 0, 0])] := by decide

theorem test_iqRecover :
    (after (exec .iqRecover (asking 15 [] { running with iqe := { running.iqe with queue := [descriptor 9 0 0], state := .error } }))).iqe.state =
      .idle := by decide

theorem test_storeWriteEnable :
    (after (exec .storeWriteEnable (ready 16 []))).ts.wel = true ∧
    replies (exec .storeWriteEnable (asking 16 [] (storing (some erase2) none .noSuspension running))) = [(3, 0, [3])] := by
  decide

theorem test_storeWriteDisable : (after (exec .storeWriteDisable (setWel true (ready 17 [])))).ts.wel = false := by
  decide

theorem test_storeProgram :
    (after (exec .storeProgram (setWel true (ready 18 [0x0C, 0, 5])))).ts.active =
      some { op := .program 3072 [5], ran := 0 } ∧
    replies (exec .storeProgram (ready 18 [0x0C, 0, 5])) = [(3, 0, [4])] := by decide

theorem test_storeErase :
    (after (exec .storeErase (setWel true (ready 19 [7])))).ts.active = some { op := .erase 7, ran := 0 } ∧
    replies (exec .storeErase (ready 19 [8])) = [(3, 0, [2])] := by decide

theorem test_storeSuspend :
    (after (exec .storeSuspend (asking 20 [] (storing (some erase2) none .noSuspension running)))).ts.phase =
      .suspending .management := by decide

theorem test_storeResume :
    (after (exec .storeResume (asking 21 [] (storing none (some erase2) (.suspended .management) running)))).ts.active = some erase2 := by
  decide

theorem test_storeRead :
    (after (exec .storeRead (ready 22 [0x1F, 0xFF, 1]))).ts.reading = some { reader := .storeRead, bytes := [0xFF] } := by
  decide

theorem test_storeStatus :
    replies (exec .storeStatus (asking 23 [] (storing (some program3) (some erase2) (.suspended .auto) running))) =
      [(3, 0, [0, 1, 3, 0, 2, 2, 0, 2, 2, 1, 0, 0, 0, 0])] := by decide

theorem test_storeProtect :
    (after (exec .storeProtect (setWel true (ready 24 [1, 2, 3, 1])))).ts.protection = some (2, 3) ∧
    (after (exec .storeProtect (setWel true (ready 24 [1, 2, 3, 1])))).ts.lock = true := by decide

theorem test_activatePolicyStart :
    (after (exec .activatePolicyStart (ready 25 [1]))).ts.reading.map (·.reader) = some .chunk := by decide

theorem test_activatePolicyReport :
    replies (exec .activatePolicyReport (ready 25 [2])) = [(3, 0, [0, 0, 0, 0, 0, 0, 0, 0])] := by decide

theorem test_cacheRead :
    replies (exec .cacheRead (asking 26 [31, 1] (withSlot 31 (.stale 17 route 2) [] running))) = [(3, 0, [0, 3, 17, 2])] := by
  decide

theorem test_resetBridge : (after (exec .resetBridge (ready 27 []))).mu = { queue := [], halted := some 3 } := by decide

theorem test_unknownCommand : replies (exec .unknownCommand (ready 28 [1])) = [(3, 0, [1])] := by decide

/-! ## Witnesses: the hypotheses of the statements are met -/

/-- Every code and every parameter list is met by a request that is ready: the hypothesis of each management statement. -/
theorem witness_ready (code : Byte) (params : List Byte) : Ready (ready code params) 3 code params :=
  ⟨rfl, rfl, rfl, rfl, rfl, rfl⟩

/-- The same on any powered state. -/
theorem witness_asking (code : Byte) (params : List Byte) (s : State) (h : s.powered = true) :
    Ready (asking code params s) 3 code params := by
  refine ⟨h, rfl, rfl, ?_, ?_, ?_⟩ <;> simp [asking, withRecord, request, State.tag, TagRecord.blank]

theorem witness_EmptyQueueLetsTimePass : State.reset.pending = [] := rfl

theorem witness_UnitStatusReadAnswers :
    [(1 : Byte)] = [byteOf ((0 : Fin 239).val + 1)] ∧ [(239 : Byte)] = [byteOf ((238 : Fin 239).val + 1)] ∧
    (∀ i : Fin 239, [(0 : Byte)] ≠ [byteOf (i.val + 1)]) ∧ (∀ i : Fin 239, [(240 : Byte)] ≠ [byteOf (i.val + 1)]) := by
  decide

theorem witness_CountersReadAnswers :
    [(0 : Byte)] = [byteOf (0 : Fin 6).val] ∧ [(5 : Byte)] = [byteOf (5 : Fin 6).val] ∧
    ∀ g : Fin 6, [(6 : Byte)] ≠ [byteOf g.val] := by decide

theorem witness_CacheReadAnswers :
    (1 ≤ 15 ∧ 15 ≤ 15 ∧ 17 + 15 ≤ 32 ∧ [(17 : Byte), 15] = [byteOf 17, byteOf 15]) ∧
    (31 + 1 ≤ 32 ∧ [(31 : Byte), 1] = [byteOf 31, byteOf 1]) ∧
    ∀ first n : Nat, 1 ≤ n → n ≤ 15 → first + n ≤ 32 → [(0 : Byte)] ≠ [byteOf first, byteOf n] := by
  refine ⟨by decide, by decide, ?_⟩
  intro first n _ _ _ h
  simp at h

theorem witness_RefusedRequestsAreAnswered :
    (∀ (b : Branch) (a : Byte), (a = 1 ∨ a = 2 ∨ a = 3) → [(4 : Byte), 1] ≠ [byteOf b.val, a]) ∧
    (∀ (b : Branch) (a : Byte), (a = 1 ∨ a = 2 ∨ a = 3) → [(0 : Byte), 4] ≠ [byteOf b.val, a]) ∧
    [(0 : Byte)] ≠ [1] ∧ [(3 : Byte)] ≠ [2] ∧ 28 ≤ (28 : Byte).toNat ∧ 28 ≤ (63 : Byte).toNat := by decide

theorem witness_SetConfigWrites :
    [(0x10 : Byte)].length % 2 = 1 ∧ ([] : List Byte).length = 0 ∧ 38 < (List.replicate 40 (0 : Byte)).length ∧
    [((0x22 : Byte), (1 : Byte))].flatMap (fun p => [p.1, p.2]) = [0x22, 1] ∧ 1 ≤ [((0x22 : Byte), (1 : Byte))].length ∧
    (List.replicate 19 ((0x1F : Byte), (255 : Byte))).length ≤ 19 := by decide

theorem witness_FaultClearFrees :
    [(7 : Byte)] = [byteOf (7 : Fin 8).val] ∧ [(0 : Byte)] = [byteOf (0 : Fin 8).val] ∧
    (∀ n : Fin 8, [(8 : Byte)] ≠ [byteOf n.val]) ∧ [(8 : Byte)] ≠ [0xFF] := by decide

theorem witness_SnapshotsCopyTheCounters : intervalOver.powered = true ∧ intervalOver.pm.interval = 0 := by decide

theorem witness_CancelEnds :
    [(15 : Byte)] = [byteOf (15 : Tag).val] ∧ (∀ u : Tag, [(16 : Byte)] ≠ [byteOf u.val]) ∧
    (filling false).powered = true ∧ ((asking 12 [2] (filling false)).tag 2).state = .lookup ∧
    ((asking 12 [2] queued).tag 2).state = .queued ∧
    ((asking 12 [2] (exchanging (.waiting exchange) none (some 9))).tag 2).state = .active := by decide

theorem witness_InvalidationsAreQueued :
    ([] : List Byte).length ≠ 4 ∧ [(1, 17, 0, 0)].flatMap (fun d : Byte × Byte × Byte × Byte => [d.1, d.2.1, d.2.2.1, d.2.2.2]) = [1, 17, 0, 0] ∧
    (List.replicate 4 ((4, 0, 0, 1) : Byte × Byte × Byte × Byte)).length ≤ 4 := by decide

theorem witness_WriteEnableAndProtection :
    ([] : List Byte).length ≠ 4 ∧ [(1 : Byte), 0, 7, 1] = [1, 0, 7, 1] := by decide

theorem witness_ProgramsAndErasesAreJudged :
    [(0 : Byte), 0].length < 3 ∧ [(0x1F : Byte), 0xFF, 5] = 0x1F :: 0xFF :: [5] ∧ ([5] : List Byte) ≠ [] ∧
    [(7 : Byte)] = [byteOf (7 : Fin 8).val] ∧ (∀ k : Fin 8, [(8 : Byte)] ≠ [byteOf k.val]) := by decide

theorem witness_SuspendAndResume :
    running.ts.phase ≠ .suspended .management ∧
    (storing (some program3) (some erase2) (.suspended .management) running).ts.active ≠ none ∧
    (storing none (some erase2) (.suspended .management) running).ts.suspended = some erase2 ∧
    (storing none (some erase2) (.suspended .management) running).ts.active = none := by decide

theorem witness_StoreReadServed :
    [(0 : Byte), 0].length ≠ 3 ∧ storeReading.powered = true ∧
    storeReading.ts.reading = some { reader := .storeRead, bytes := [7, 8] } ∧
    storeReading.mu.queue.head? = some (.executing (some 3)) ∧ (storeReading.tag 3).unit = 0 ∧
    { storeReading with mu := { queue := [.executing none], halted := none } }.mu.queue.head? = some (.executing none) ∧
    (reading .droppedStoreRead [7] running).ts.reading = some { reader := .droppedStoreRead, bytes := [7] } := by
  decide

theorem witness_ResetFollowsItsReply :
    sending.powered = true ∧ sending.tp.transmitter = some [1] ∧
    sending.tp.replies = { tag := 3, unit := 0, outcome := .done, status := none, payload := [0] } :: [] := by
  decide

theorem witness_PowerComesAndGoes :
    { running with powered := false }.powered = false ∧ (storing (some program3) none .noSuspension running).powered = true ∧
    StoreSound (storing (some program3) none .noSuspension running).ts ∧ Instr.powerLoss ≠ .powerOn := by decide

/-- The line in a break of 199 µs that has cut a frame. -/
def cutting : State :=
  { running with tp := { running.tp with lineInBreak := true, breakTimer := some 199, reception := some [1, 2, 3] } }

theorem witness_TheTrunkLineMoves :
    running.powered = true ∧ (sending.tp.replies ≠ []) ∧ { sending.tp with transmitter := none }.transmitter = none ∧
    TrunkSound cutting.tp ∧ cutting.tp.breakTimer ≠ some 200 ∧ TrunkSound breaking.tp ∧ breaking.tp.breakTimer = some 200 := by
  decide

theorem witness_TheTrunkLineMoves_of_a_break : ∃ u, exec .trunkBreak breaking = .next u := ⟨_, rfl⟩

theorem witness_FramesAreJudged :
    State.reset.tp.receiver ≠ .receiving ∧ running.tp.receiver = .receiving ∧ running.tp.lineInBreak = false ∧
    running.tp.openFor < 1 ∧ 0 ≤ running.tp.openFor := by decide

theorem witness_TrunkBreakFrees :
    breaking.powered = true ∧ breaking.tp.lineInBreak = true ∧ breaking.tp.breakTimer = some 200 ∧
    ¬ (cutting.tp.lineInBreak = true ∧ cutting.tp.breakTimer = some 200) := by decide

theorem witness_DispatchAnswersAtOnce :
    (dispatching [0x12, 17, 1, 0, 2] queued).tp.intake = withCheck [0x12, 17, 1, 0, 2] :: [] ∧
    ((dispatching [0x12, 17, 1, 0, 2] queued).tag 2).state ≠ .free ∧
    (decodeRequest (withCheck [0x10, 240, 1, 0, 1])).isBad = true ∧
    (decodeRequest (withCheck [0x10, 0, 2, 63, 0])).isBad = false ∧
    (decodeRequest (withCheck [0x10, 239, 4, 63, 0])).isBad = false ∧
    (running.tag 0).state = .free := by decide

/-- A matching unit is the slot's own unit, so soundness of a cache is a check over slots alone. -/
theorem cacheSound_of_slots (c : RouteCache)
    (h : (∀ i j : SlotNo, i ≠ j → c.slots[i.val].matchesUnit c.slots[i.val].unit = true →
        c.slots[j.val].matchesUnit c.slots[i.val].unit = false) ∧
      c.recency.Nodup ∧ (∀ i : SlotNo, i ∈ c.recency ↔ c.slots[i.val].isValid = true) ∧
      ∀ i : SlotNo, c.slots[i.val].isStale = true → 1 ≤ c.slots[i.val].refs) : CacheSound c := by
  refine ⟨fun i j hij u hu => ?_, h.2⟩
  have hself : c.slots[i.val].unit = u := by
    cases hc : c.slots[i.val] <;> simp_all [CacheSlot.matchesUnit, CacheSlot.unit]
  exact hself ▸ h.1 i j hij (by rw [hself]; exact hu)

theorem witness_DispatchLooksUp :
    (decodeRequest (withCheck [0x10, 255, 2, 63, 1, 9])).isBad = false ∧
    (decodeRequest (withCheck [0x10, 1, 1, 63, 48])).isBad = false ∧
    CacheSound running.rc ∧ running.rc.victim = some 0 ∧
    (∀ j : SlotNo, (running.slot j).matchesUnit 1 = false) :=
  ⟨by decide, by decide, cacheSound_of_slots _ (by decide), by decide, by decide⟩

theorem witness_DispatchLooksUp_hit_and_join :
    CacheSound (withSlot 4 (.valid 17 route 0) [4] running).rc ∧
    (withSlot 4 (.valid 17 route 0) [4] running).slot 4 = .valid 17 route 0 ∧
    CacheSound (filling true).rc ∧ (filling true).slot 4 = .filling 17 true ([2] ++ []) :=
  ⟨cacheSound_of_slots _ (by decide), by decide, cacheSound_of_slots _ (by decide), by decide⟩

/-- A cache with every slot VALID and idle, but slot 31 as given. -/
def fullCache (c : CacheSlot) (idle : Nat) (order : List SlotNo) : RouteCache :=
  { slots := Vector.ofFn fun i : SlotNo => if i = 31 then c else .valid (byteOf (i.val + 1)) route idle, recency := order }

theorem witness_SlotsChangeHands :
    CacheSound RouteCache.reset ∧ RouteCache.reset.victim = some 0 ∧
    CacheSound (fullCache (.valid 32 route 1) 0 ((List.finRange 32).reverse)) ∧
    (fullCache (.valid 32 route 1) 0 ((List.finRange 32).reverse)).victim = some 0 :=
  ⟨cacheSound_of_slots _ (by decide), by decide, cacheSound_of_slots _ (by decide), by decide⟩

theorem witness_SlotsChangeHands_without_idle :
    CacheSound (fullCache (.filling 32 false []) 1 ((List.finRange 31).map fun i => Fin.castSucc i)) ∧
    (fullCache (.filling 32 false []) 1 ((List.finRange 31).map fun i => Fin.castSucc i)).victim = some 31 ∧
    CacheSound (fullCache (.valid 32 route 1) 1 (List.finRange 32)) ∧
    (fullCache (.valid 32 route 1) 1 (List.finRange 32)).victim = none :=
  ⟨cacheSound_of_slots _ (by decide), by decide, cacheSound_of_slots _ (by decide), by decide⟩

theorem witness_SlotsChangeHands_of_the_drain :
    running.iqe.state ≠ .waitingFence ∧ ((withSlot 4 (.stale 17 route 1) [] running).slot 4).isStale = true ∧
    (∀ j : SlotNo, (running.slot j).isStale = false ∧ (running.slot j).marked = false) ∧
    { (processing (descriptor 4 0 0)).iqe with state := .waitingFence }.queue = descriptor 4 0 0 :: [] := by decide

theorem witness_StoredRecordsDecode : entry.length = 16 ∧ record.length = 64 ∧ (decodeRecord record).isSome = true := by
  decide

theorem witness_FillsComplete :
    (reading (.fill 4) entry (filling true)).powered = true ∧
    (reading (.fill 4) entry (filling true)).slot 4 = .filling 17 true [2] ∧
    (reading (.fill 4) entry (filling false)).slot 4 = .filling 17 false [2] ∧
    (reading .droppedFill entry running).ts.reading = some { reader := .droppedFill, bytes := entry } ∧
    (4 : SlotNo) ∉ (filling true).ts.refusedFills ∧
    (4 : SlotNo) ∈ { (filling true).ts with refusedFills := [4] }.refusedFills := by decide

/-- A store whose fills wait in two ways. -/
def waitingFills : State :=
  { running with
    ts :=
      { running.ts with
        fills := [{ slot := 3, unit := 1, wait := .forHoldoff }, { slot := 4, unit := 17, wait := .eligible }] } }

theorem witness_FillsAreJudgedAndServed :
    waitingFills.ts.reading = none ∧
    waitingFills.ts.fills = [{ slot := 3, unit := 1, wait := .forHoldoff }] ++ { slot := 4, unit := 17, wait := .eligible } :: [] ∧
    (waitingFills.ts.fills.map (·.slot)).Nodup ∧ running.ts.storeRead = none ∧ running.pu.activation = .idle ∧
    (∀ f ∈ running.ts.fills, f.wait ≠ .eligible) ∧
    (storing (some program3) none .noSuspension running).ts.active ≠ none ∧
    running.sul.state = .idle ∧ State.reset.sul.state = .reading 0 none 0 ∧
    { running.pu with activation := .running 31 0 }.activation = .running 31 0 ∧ (running.ts.fills = []) ∧
    (reading .storeRead [] running).ts.reading ≠ none := by decide

/-- An operation suspended by AUTO in sector 4, with the loader waiting for the store. -/
def waitingLoader : State :=
  { storing none (some { op := .erase 4, ran := 5 }) (.suspended .auto) running with
    sul := { StartUpLoader.reset with state := .waitStore } }

theorem witness_FillsAreJudgedAndServed_of_the_settling :
    (waitingLoader.ts.phase = .suspended .auto ∧ waitingLoader.ts.active = none ∧ waitingLoader.ts.fills = [] ∧
      waitingLoader.ts.storeRead = none ∧ waitingLoader.ts.reading = none) ∧
    waitingLoader.sul.state = .waitStore ∧ waitingLoader.ts.suspended = some { op := .erase 4, ran := 5 } ∧
    running.ts.phase ≠ .suspended .auto ∧ running.sul.state ≠ .waitStore ∧ running.ts.suspended = none := by decide

theorem test_the_loader_resumes_or_reads :
    (loaderExamine waitingLoader).ts.active = some { op := .erase 4, ran := 5 } ∧
    (autoResume waitingLoader).ts.holdoff = some 100 ∧
    (loaderExamine { running with sul := { StartUpLoader.reset with state := .waitStore } }).sul.state = .reading 0 none 0 := by
  decide

theorem witness_StoreOperationsMove :
    StoreSound (storing (some program3) (some erase2) (.suspended .auto) running).ts ∧
    StoreSound (storing (some erase2) none (.suspending .auto) running).ts ∧
    StoreSound { (storing (some erase2) none .noSuspension running).ts with holdoff := some 0 } ∧
    running.powered = true := by decide

theorem witness_ChunksArrive :
    activating.ts.reading = some { reader := .chunk, bytes := List.replicate 64 2 } ∧
    activating.pu.activation = .running 31 5 ∧
    (reading .droppedChunk [] running).ts.reading = some { reader := .droppedChunk, bytes := [] } := by decide

theorem witness_LoaderReadsAndApplies :
    (loading 0 none).ts.reading = some { reader := .loader, bytes := List.replicate 64 0 } ∧
    (loading 0 none).sul.state = .reading 0 none 0 ∧ (loading 32 none).sul.state = .reading 32 none 0 ∧
    (1 : Fin 33).val = (0 : Fin 32).val + 1 ∧ (31 : Fin 33).val = (30 : Fin 32).val + 1 ∧ (30 : Fin 32) ≠ 31 := by
  decide

theorem witness_DescriptorsAreProcessed :
    (processing (descriptor 2 232 8)).iqe.state = .running ∧
    (processing (descriptor 2 232 8)).iqe.queue = descriptor 2 232 8 :: [] ∧
    (232 : Byte).toNat + (8 : Byte).toNat ≤ 240 ∧ (231 : Byte).toNat + (9 : Byte).toNat ≤ 240 ∧ 8 < (9 : Byte).toNat ∧
    (descriptor 1 239 0).malformed = false ∧ (descriptor 1 240 0).malformed = true := by decide

theorem witness_HeadsAreTaken :
    (queued.port 1).state = .enabled ∧ (queued.port 1).exchange = .idle ∧
    (queued.port 1).queue = { tag := 2, kind := .unit } :: [{ tag := 5, kind := .member }] ∧
    (queued.tag 2).facts.isSome = true ∧ (queued.tag 2).op = some .read ∧ (queued.port 0).queue = [] := by decide

theorem witness_EchoesAreJudged :
    ((exchanging (.sending exchange) (some 9) none).port 1).exchange = .sending exchange ∧
    exchange.timeoutClass = some 2 ∧ (broadcasting.port 1).exchange = .sending memberExchange ∧
    memberExchange.kind = .member := by decide

theorem witness_AttemptsFail :
    ((exchanging (.waiting exchange) none (some 0)).port 1).exchange = .waiting exchange ∧
    ((exchanging (.waiting exchange) none (some 0)).port 1).responseTimer = some 0 := by decide

theorem witness_RepliesAreJudged :
    (running.port 0).exchange = .idle ∧
    ((exchanging (.sending exchange) (some 0) none).port 1).exchange = .sending exchange ∧
    ((exchanging (.waiting exchange) none (some 0)).port 1).exchange = .waiting exchange ∧
    replyAcceptable exchange (withCheck [0x60, 5, 0, 9, 2, 1, 2]) = true ∧
    replyAcceptable exchange [0x60, 5, 0, 9, 2, 1, 2] = false := by decide

theorem witness_PortsShutDown :
    ((exchanging (.sending exchange) (some 0) none).port 1).watchdog = some 0 := by decide

theorem witness_BroadcastsFanOutAndRequestsAreHeld :
    running.pu.activation = .idle ∧ activating.pu.activation ≠ .idle ∧ activating.pu.held = [] ++ [] ∧
    (2 : Tag) ∉ activating.pu.held := by decide

theorem witness_TransactionsEnd :
    ((queued.tag 2).unit = byteOf ((16 : Fin 239).val + 1)) ∧ (queued.tag 2).op ≠ some .queryLast ∧
    (∀ i : Fin 239, (queued.tag 5).unit ≠ byteOf (i.val + 1)) := by decide

theorem witness_TransactionsEnd_of_a_change :
    ∃ v : UnitRecord, v.changed = false ∧ v.status = some 3 ∧ (some (4 : Byte)) = some 4 ∧ (3 : Byte) ≠ 4 :=
  ⟨{ lastOutcome := none, status := some 3, changed := false }, by decide⟩

/-- Some member of a broadcast stands in a state. -/
abbrev stands (m : Vector (Option MemberState) 4) (x : MemberState) : Prop := ∃ c : Branch, m[c.val] = some x

theorem witness_ExchangesEnd :
    stands ((queued.tag 5).members.set 0 (some .failed)) .pending ∧
    (¬ stands ((queued.tag 5).members.set 1 (some .succeeded)) .pending ∧
      stands ((queued.tag 5).members.set 1 (some .succeeded)) .succeeded ∧
      ¬ stands ((queued.tag 5).members.set 1 (some .succeeded)) .failed) ∧
    (¬ stands ((queued.tag 5).members.set 1 (some .failed)) .pending ∧
      ¬ stands ((queued.tag 5).members.set 1 (some .failed)) .succeeded) ∧
    (¬ stands #v[some .failed, none, none, some .succeeded] .pending ∧
      stands #v[some .failed, none, none, some .succeeded] .succeeded ∧
      stands #v[some .failed, none, none, some .succeeded] .failed) ∧
    (∀ c : Branch, (running.tag 0).members[c.val] = none) := by decide

theorem witness_FaultsAndCountersAreRecorded :
    FaultFileSound (faulty 5 []).frf ∧ (faulty 5 []).frf.records[0] = some { FaultRecord.plain .tagReuse with tag := some 4 } ∧
    (faulty 5 []).frf.records[1] = none := by decide

/-! ## The invariants hold somewhere a command acts -/

theorem witness_the_invariants_hold_at_work :
    WithinCapacity queued ∧ ChangeListAgrees queued.ust ∧ FaultFileSound queued.frf ∧ StoreSound queued.ts ∧
    EngineSound queued.iqe ∧ FenceWaits queued := by decide

theorem witness_the_trunk_is_sound_at_work : TrunkSound queued.tp ∧ TrunkSound cutting.tp := by decide

theorem witness_the_references_are_counted_at_work :
    ReferencesCounted queued ∧ ReferencesCounted (exchanging (.sending exchange) (some 9) none) ∧
    ReferencesCounted (after (exec .trunkBreak { exchanging (.sending exchange) (some 9) none with
      tp := { running.tp with lineInBreak := true, breakTimer := some 200 } })) := by decide

theorem witness_the_exchanges_name_their_slots : ExchangesNameSlots (exchanging (.sending exchange) (some 9) none) := by
  refine ⟨fun t ht => ?_, fun b => ?_⟩
  · have ht2 : t = 2 := by revert ht; revert t; decide
    exact ⟨1, exchange, rfl, rfl, rfl, ht2 ▸ rfl⟩
  · intro x hx _
    have hb : ∀ c : Branch, c ≠ 1 → ((exchanging (.sending exchange) (some 9) none).port c).exchange.current = none := by
      decide
    by_cases h : b = 1
    · subst h
      have hc : ((exchanging (.sending exchange) (some 9) none).port 1).exchange.current = some exchange := rfl
      obtain rfl : exchange = x := Option.some.inj (hc ▸ hx)
      rfl
    · simp [hb b h] at hx

theorem witness_the_tags_are_held_at_work : CacheSound queued.rc ∧ TagsHeld queued := by
  refine ⟨cacheSound_of_slots _ (by decide), by decide, by decide, by decide, by decide, ?_⟩
  intro b
  refine ⟨?_, ?_, ?_⟩
  · revert b; decide
  · revert b; decide
  · intro x hx
    have : ∀ b : Branch, (queued.port b).exchange.current = none := by decide
    simp [this b] at hx

theorem witness_a_step_answers : ∃ s', step (queued.withPending [.takeHead 1]) = .next s' := ⟨_, rfl⟩

end Sys2Proof.Tests
end

section
/-!
The ledger of the tags: every place of the bridge that holds a tag, what it asks of the tag's record, and the records. `TagsHeld` says that the ledger agrees (R1, R20, R26, R63, R71, R164); the lemmas here say once how a ledger changes when a transaction moves from one place to another.
-/

namespace Sys2Proof.Machine

/-- What a place that holds a tag asks of the tag's record. `nobody` is the demand that no record meets: an exchange that is no orphan and names no tag makes it. -/
inductive Role where
  | replying
  | held
  | waiting (unit : Byte)
  | management
  | atPort (b : Branch) (kind : EntryKind) (active : Bool)
  | nobody

/-- A record meets what a place asks. -/
def Role.fits (r : TagRecord) : Role → Prop
  | .replying => r.state = .replying
  | .held => r.state = .held
  | .waiting u => r.state = .lookup ∧ r.unit = u
  | .management => r.state = .mgmt
  | .atPort b .unit active => r.state = (if active then .active else .queued) ∧ r.facts.map (·.branch) = some b
  | .atPort b .member _ => r.state = .bcast ∧ r.members[b.val] = some .pending
  | .nobody => False

/-- A tag held by a place, with what the place asks of its record. -/
structure Claim where
  tag : Tag
  role : Role

/-- The places that hold tags. -/
inductive Place where
  | replies
  | held
  | waiters (i : SlotNo)
  | management
  | port (b : Branch)
  deriving DecidableEq

/-- The claims of a place that asks the same of every tag it holds. -/
def claimsOf (tags : List Tag) (role : Role) : Multiset Claim := ↑(tags.map fun t => Claim.mk t role)

/-- The claims of a slot on its waiters (R26). -/
def CacheSlot.claims (c : CacheSlot) : Multiset Claim := claimsOf c.waiters (.waiting c.unit)

/-- The claim of an exchange on its tag (R73); an orphan makes none (R89). -/
def Exchange.claims (x : Exchange) (b : Branch) : Multiset Claim :=
  if x.orphan then 0
  else
    match x.tag with
    | some t => {⟨t, .atPort b x.kind true⟩}
    | none => {⟨0, .nobody⟩}

/-- The claims of the exchange of an exchange state, if there is one. -/
def ExchangeState.claims (e : ExchangeState) (b : Branch) : Multiset Claim :=
  match e.current with
  | some x => x.claims b
  | none => 0

/-- The claims of a Branch Queue on the tags of its entries (R71). -/
def queueClaims (q : List QueueEntry) (b : Branch) : Multiset Claim :=
  ↑(q.map fun e => Claim.mk e.tag (.atPort b e.kind false))

/-- The claims of a port: those of its queue and that of its exchange. -/
def BranchPort.claims (p : BranchPort) (b : Branch) : Multiset Claim := queueClaims p.queue b + p.exchange.claims b

/-- The claims of the Management Queue (R164). -/
def managementClaims (q : List ManagementEntry) : Multiset Claim :=
  claimsOf (q.filterMap ManagementEntry.tag) .management

/-- The claims of every place on the tags, and the records of the tags. -/
structure Ledger where
  record : Tag → TagRecord
  claims : Place → Multiset Claim

/-- The ledger of a state. -/
def State.ledger (s : State) : Ledger where
  record := s.tag
  claims
    | .replies => claimsOf (s.tp.replies.map (·.tag)) .replying
    | .held => claimsOf s.pu.held .held
    | .waiters i => (s.slot i).claims
    | .management => managementClaims s.mu.queue
    | .port b => (s.port b).claims b

/-- No place holds the tag. -/
def Ledger.Unclaimed (L : Ledger) (t : Tag) : Prop := ∀ p, ∀ c ∈ L.claims p, c.tag ≠ t

/-- A place holds a tag at most once, and the records meet what it asks of them. -/
def Ledger.AgreesAt (L : Ledger) (p : Place) : Prop :=
  ((L.claims p).map Claim.tag).Nodup ∧ ∀ c ∈ L.claims p, c.role.fits (L.record c.tag)

/-- The ledger agrees at every place. -/
def Ledger.Agrees (L : Ledger) : Prop := ∀ p, L.AgreesAt p

/-- The ledger agrees and no place holds the tag: its record may change freely, and the tag may be given to a place. -/
structure Ledger.Loose (L : Ledger) (t : Tag) : Prop where
  agrees : L.Agrees
  unclaimed : L.Unclaimed t

/-- From one ledger to the next only this tag has been given to places, and only its record has changed; the next ledger agrees. -/
structure Ledger.Moves (L : Ledger) (t : Tag) (L' : Ledger) : Prop where
  record : ∀ v, v ≠ t → L'.record v = L.record v
  claims : ∀ p, ∀ c ∈ L'.claims p, c.tag ≠ t → c ∈ L.claims p
  agrees : L'.Agrees

/-! ## The ledger and TagsHeld -/

/-- The claim of an exchange is met when the exchange is an orphan, or has a tag in the state the exchange stands for. -/
theorem Exchange.claims_fit (x : Exchange) (b : Branch) (record : Tag → TagRecord) :
    (∀ c ∈ x.claims b, c.role.fits (record c.tag)) ↔
      (x.orphan = false → ∃ t, x.tag = some t ∧ (Role.atPort b x.kind true).fits (record t)) := by
  unfold Exchange.claims
  cases x.orphan with
  | true => simp
  | false => cases x.tag <;> simp [Role.fits]

/-- An exchange holds at most one tag. -/
theorem Exchange.claims_nodup (x : Exchange) (b : Branch) : ((x.claims b).map Claim.tag).Nodup := by
  unfold Exchange.claims
  split
  · simp
  · split <;> simp

theorem heldAtPort_iff_fits (s : State) (b : Branch) (kind : EntryKind) (active : Bool) (t : Tag) :
    heldAtPort s b kind active t = true ↔ (Role.atPort b kind active).fits (s.tag t) := by
  cases kind <;> simp [heldAtPort, Role.fits]

/-- A port holds its tags when its part of the ledger agrees. -/
theorem portHeld_iff (s : State) (b : Branch) :
    (((s.port b).queue.map (·.tag)).Nodup ∧
      (∀ e ∈ (s.port b).queue, heldAtPort s b e.kind false e.tag = true) ∧
      ∀ x ∈ (s.port b).exchange.current, x.orphan = false →
        ∃ t, x.tag = some t ∧ heldAtPort s b x.kind true t = true ∧ t ∉ (s.port b).queue.map (·.tag)) ↔
    (((s.port b).claims b).map Claim.tag).Nodup ∧
      ∀ c ∈ (s.port b).claims b, c.role.fits (s.tag c.tag) := by
  have tags : (queueClaims (s.port b).queue b).map Claim.tag = ↑((s.port b).queue.map (·.tag)) := by
    simp [queueClaims, Function.comp_def]
  have fits : (∀ c ∈ queueClaims (s.port b).queue b, c.role.fits (s.tag c.tag)) ↔
      ∀ e ∈ (s.port b).queue, (Role.atPort b e.kind false).fits (s.tag e.tag) := by simp [queueClaims]
  simp only [BranchPort.claims, Multiset.map_add, tags, fits, Multiset.mem_add, or_imp, forall_and, Multiset.nodup_add,
    Multiset.coe_nodup, heldAtPort_iff_fits, ExchangeState.claims]
  cases (s.port b).exchange.current with
  | none => simp [Multiset.disjoint_right]
  | some x =>
    simp only [Exchange.claims_nodup, Exchange.claims_fit, Option.mem_some_iff, forall_eq', true_and]
    cases ho : x.orphan with
    | true => simp [Exchange.claims, ho, Multiset.disjoint_right]
    | false =>
      cases ht : x.tag with
      | none => simp
      | some t => simp [Exchange.claims, ho, ht]; tauto

/-- Tags that are all asked the same. -/
theorem claimsOf_agree (tags : List Tag) (role : Role) (record : Tag → TagRecord) :
    (((claimsOf tags role).map Claim.tag).Nodup ∧ ∀ c ∈ claimsOf tags role, c.role.fits (record c.tag)) ↔
      tags.Nodup ∧ ∀ t ∈ tags, role.fits (record t) := by
  simp [claimsOf, Function.comp_def]

/-- Every place holds its tags as the rules say exactly when the ledger agrees. -/
theorem tagsHeld_iff_agrees (s : State) : TagsHeld s ↔ s.ledger.Agrees := by
  have replies : RepliesHeld s ↔ s.ledger.AgreesAt .replies :=
    Iff.trans (by simp [Role.fits]) (claimsOf_agree (s.tp.replies.map (·.tag)) .replying s.tag).symm
  have held : HeldHeld s ↔ s.ledger.AgreesAt .held := (claimsOf_agree s.pu.held .held s.tag).symm
  have waiters : WaitersHeld s ↔ ∀ i, s.ledger.AgreesAt (.waiters i) :=
    forall_congr' fun i => (claimsOf_agree (s.slot i).waiters (.waiting (s.slot i).unit) s.tag).symm
  have management : ManagementHeld s ↔ s.ledger.AgreesAt .management :=
    (claimsOf_agree (s.mu.queue.filterMap ManagementEntry.tag) .management s.tag).symm
  have ports : PortsHeld s ↔ ∀ b, s.ledger.AgreesAt (.port b) := forall_congr' fun b => portHeld_iff s b
  rw [TagsHeld, replies, held, waiters, management, ports]
  constructor
  · rintro ⟨hr, hh, hw, hm, hp⟩ (_ | _ | i | _ | b)
    exacts [hr, hh, hw i, hm, hp b]
  · exact fun h => ⟨h _, h _, fun i => h _, h _, fun b => h _⟩

end Sys2Proof.Machine
end

section
/-!
How a ledger changes: the record of a tag is written, a place gives up claims, a place is given a loose tag.
-/

namespace Sys2Proof.Machine

namespace Ledger

/-- The ledger with a record changed. -/
def setRecord (L : Ledger) (t : Tag) (r : TagRecord) : Ledger := { L with record := Function.update L.record t r }

/-- The ledger with the claims of a place changed. -/
def setClaims (L : Ledger) (p : Place) (m : Multiset Claim) : Ledger :=
  { L with claims := Function.update L.claims p m }

@[simp] theorem setRecord_claims (L : Ledger) (t : Tag) (r : TagRecord) : (L.setRecord t r).claims = L.claims := rfl
@[simp] theorem setClaims_record (L : Ledger) (p : Place) (m : Multiset Claim) :
    (L.setClaims p m).record = L.record := rfl
@[simp] theorem setRecord_record_self (L : Ledger) (t : Tag) (r : TagRecord) : (L.setRecord t r).record t = r := by
  simp [setRecord]
theorem setRecord_record_ne (L : Ledger) {t v : Tag} (r : TagRecord) (h : v ≠ t) :
    (L.setRecord t r).record v = L.record v := by simp [setRecord, h]
@[simp] theorem setClaims_claims_self (L : Ledger) (p : Place) (m : Multiset Claim) : (L.setClaims p m).claims p = m := by
  simp [setClaims]
theorem setClaims_claims_ne (L : Ledger) {p q : Place} (m : Multiset Claim) (h : q ≠ p) :
    (L.setClaims p m).claims q = L.claims q := by simp [setClaims, h]

/-- A place that gives up claims has fewer, and every other place has the same. -/
theorem setClaims_claims_le (L : Ledger) {p : Place} {m : Multiset Claim} (h : m ≤ L.claims p) (q : Place) :
    (L.setClaims p m).claims q ≤ L.claims q := by
  by_cases hq : q = p
  · subst hq; simpa using h
  · rw [setClaims_claims_ne _ _ hq]

@[simp] theorem setRecord_setRecord (L : Ledger) (t : Tag) (r r' : TagRecord) :
    (L.setRecord t r).setRecord t r' = L.setRecord t r' := by simp [setRecord]

/-- A record written as it stands. -/
theorem setRecord_self (L : Ledger) (t : Tag) : L.setRecord t (L.record t) = L := by simp [setRecord]

/-- Claims written as they stand. -/
theorem setClaims_of_eq (L : Ledger) {p : Place} {m : Multiset Claim} (h : m = L.claims p) : L.setClaims p m = L := by
  simp [setClaims, h]

/-- Claims given up and records that still meet what is asked of them leave the ledger in agreement. -/
theorem Agrees.mono {L L' : Ledger} (h : L.Agrees) (hclaims : ∀ p, L'.claims p ≤ L.claims p)
    (hrecord : ∀ p, ∀ c ∈ L'.claims p, c.role.fits (L.record c.tag) → c.role.fits (L'.record c.tag)) : L'.Agrees :=
  fun p => ⟨Multiset.nodup_of_le (Multiset.map_le_map (hclaims p)) (h p).1,
    fun c hc => hrecord p c hc ((h p).2 c (Multiset.mem_of_le (hclaims p) hc))⟩

/-- A place gives up claims. -/
theorem Agrees.drop {L : Ledger} (h : L.Agrees) {p : Place} {m : Multiset Claim} (hm : m ≤ L.claims p) :
    (L.setClaims p m).Agrees := h.mono (L.setClaims_claims_le hm) fun _ _ _ => id

/-- A record changes in nothing that a place asks of it. -/
theorem Agrees.setRecord {L : Ledger} (h : L.Agrees) {t : Tag} {r : TagRecord}
    (hr : ∀ role : Role, role.fits (L.record t) → role.fits r) : (L.setRecord t r).Agrees :=
  h.mono (fun _ => le_rfl) fun p c hc hfit => by
    by_cases hct : c.tag = t
    · rw [hct, setRecord_record_self]
      exact hr _ (hct ▸ hfit)
    · rwa [setRecord_record_ne _ _ hct]

theorem Unclaimed.drop {L : Ledger} {t : Tag} (h : L.Unclaimed t) {p : Place} {m : Multiset Claim}
    (hm : m ≤ L.claims p) : (L.setClaims p m).Unclaimed t :=
  fun q c hc => h q c (Multiset.mem_of_le (L.setClaims_claims_le hm q) hc)

/-- The record of a loose tag changes. -/
theorem Loose.setRecord {L : Ledger} {t : Tag} (h : L.Loose t) (r : TagRecord) : (L.setRecord t r).Loose t where
  agrees := h.agrees.mono (fun _ => le_rfl) fun p c hc hfit => by
    rwa [setRecord_record_ne _ _ (h.unclaimed p c hc)]
  unclaimed := h.unclaimed

theorem Loose.drop {L : Ledger} {t : Tag} (h : L.Loose t) {p : Place} {m : Multiset Claim} (hm : m ≤ L.claims p) :
    (L.setClaims p m).Loose t where
  agrees := h.agrees.drop hm
  unclaimed := h.unclaimed.drop hm

theorem Moves.trans {L L' L'' : Ledger} {t : Tag} (h : L.Moves t L') (h' : L'.Moves t L'') : L.Moves t L'' where
  record v hv := (h'.record v hv).trans (h.record v hv)
  claims p c hc hct := h.claims p c (h'.claims p c hc hct) hct
  agrees := h'.agrees

/-- The record of the tag may be written before the tag moves. -/
theorem Moves.of_setRecord {L L' : Ledger} {t : Tag} {r : TagRecord} (h : (L.setRecord t r).Moves t L') :
    L.Moves t L' where
  record v hv := (h.record v hv).trans (L.setRecord_record_ne r hv)
  claims := h.claims
  agrees := h.agrees

/-- A place may give up claims before the tag moves. -/
theorem Moves.of_drop {L L' : Ledger} {t : Tag} {p : Place} {m : Multiset Claim} (hm : m ≤ L.claims p)
    (h : (L.setClaims p m).Moves t L') : L.Moves t L' where
  record := h.record
  claims q c hc hct := Multiset.mem_of_le (L.setClaims_claims_le hm q) (h.claims q c hc hct)
  agrees := h.agrees

/-- Another loose tag stays loose. -/
theorem Moves.loose {L L' : Ledger} {t v : Tag} (h : L.Moves t L') (hv : L.Unclaimed v) (hne : v ≠ t) : L'.Loose v where
  agrees := h.agrees
  unclaimed p c hc hcv := hv p c (h.claims p c hc (hcv ▸ hne)) hcv

/-- A loose tag is given to places, with a record that meets what they ask. -/
theorem Loose.gives {L L' : Ledger} {t : Tag} (h : L.Loose t) (hrecord : ∀ v, v ≠ t → L'.record v = L.record v)
    (hclaims : ∀ p, L'.claims p ≤ L.claims p ∨
      ∃ role : Role, role.fits (L'.record t) ∧ L'.claims p ≤ ⟨t, role⟩ ::ₘ L.claims p) : L.Moves t L' where
  record := hrecord
  claims p c hc hct := by
    rcases hclaims p with hle | ⟨role, -, hle⟩
    · exact Multiset.mem_of_le hle hc
    · rcases Multiset.mem_cons.1 (Multiset.mem_of_le hle hc) with rfl | hmem
      · exact absurd rfl hct
      · exact hmem
  agrees p := by
    have old : ∀ c ∈ L.claims p, c.role.fits (L'.record c.tag) := fun c hc => by
      rw [hrecord _ (h.unclaimed p c hc)]
      exact (h.agrees p).2 c hc
    rcases hclaims p with hle | ⟨role, hfit, hle⟩
    · exact ⟨Multiset.nodup_of_le (Multiset.map_le_map hle) (h.agrees p).1, fun c hc => old c (Multiset.mem_of_le hle hc)⟩
    · have hnew : t ∉ (L.claims p).map Claim.tag := fun hmem => by
        obtain ⟨c, hc, hct⟩ := Multiset.mem_map.1 hmem
        exact h.unclaimed p c hc hct
      refine ⟨Multiset.nodup_of_le (Multiset.map_le_map hle) ?_, fun c hc => ?_⟩
      · rw [Multiset.map_cons]
        exact Multiset.nodup_cons.2 ⟨hnew, (h.agrees p).1⟩
      · rcases Multiset.mem_cons.1 (Multiset.mem_of_le hle hc) with rfl | hmem
        · exact hfit
        · exact old c hmem

/-- A loose tag is given to one place. -/
theorem Loose.gain {L : Ledger} {t : Tag} (h : L.Loose t) {p : Place} {m : Multiset Claim} {role : Role}
    (hm : m ≤ ⟨t, role⟩ ::ₘ L.claims p) (hfit : role.fits (L.record t)) : L.Moves t (L.setClaims p m) :=
  h.gives (fun _ _ => rfl) fun q => by
    by_cases hq : q = p
    · subst hq; exact .inr ⟨role, hfit, by simpa using hm⟩
    · exact .inl (by rw [setClaims_claims_ne _ _ hq])

/-- A loose tag that is given to no place. -/
theorem Loose.moves {L : Ledger} {t : Tag} (h : L.Loose t) : L.Moves t L :=
  h.gives (fun _ _ => rfl) fun _ => .inl le_rfl

/-- Several loose tags move one after another. -/
theorem agrees_foldl (f : State → Tag → State) (hf : ∀ (s : State) (t : Tag), s.ledger.Loose t → s.ledger.Moves t (f s t).ledger) :
    ∀ (ts : List Tag) (s : State), ts.Nodup → s.ledger.Agrees → (∀ t ∈ ts, s.ledger.Unclaimed t) →
      (ts.foldl f s).ledger.Agrees
  | [], _, _, h, _ => h
  | t :: ts, s, hts, h, hu => by
    obtain ⟨hnot, hnodup⟩ := List.nodup_cons.1 hts
    have hmove : s.ledger.Moves t (f s t).ledger := hf s t ⟨h, hu t List.mem_cons_self⟩
    refine agrees_foldl f hf ts (f s t) hnodup hmove.agrees fun v hv => ?_
    exact (hmove.loose (hu v (List.mem_cons_of_mem _ hv)) fun heq => hnot (heq ▸ hv)).unclaimed

end Ledger

/-! ## The ledger after each operation -/

@[simp] theorem ledger_record (s : State) : s.ledger.record = s.tag := rfl

@[simp] theorem ledger_setTag (s : State) (t : Tag) (r : TagRecord) :
    (s.setTag t r).ledger = s.ledger.setRecord t r := by
  have hrec : (s.setTag t r).tag = Function.update s.tag t r := by
    funext v; simp [tag_setTag, Function.update_apply]
  simp only [State.ledger, Ledger.setRecord, hrec]
  rfl

@[simp] theorem ledger_setSlot (s : State) (i : SlotNo) (c : CacheSlot) :
    (s.setSlot i c).ledger = s.ledger.setClaims (.waiters i) c.claims := by
  simp only [State.ledger, Ledger.setClaims, Ledger.mk.injEq]
  refine ⟨rfl, ?_⟩
  funext p
  cases p with
  | waiters j => by_cases h : j = i <;> simp [slot_setSlot, h]
  | _ => simp

@[simp] theorem ledger_setPort (s : State) (b : Branch) (p : BranchPort) :
    (s.setPort b p).ledger = s.ledger.setClaims (.port b) (p.claims b) := by
  simp only [State.ledger, Ledger.setClaims, Ledger.mk.injEq]
  refine ⟨rfl, ?_⟩
  funext q
  cases q with
  | port d => by_cases h : d = b <;> simp [port_setPort, h]
  | _ => simp

/-- A state with the same holders has the same ledger. -/
theorem ledger_congr {s s' : State} (htags : s'.dsp.tags = s.dsp.tags)
    (hreplies : s'.tp.replies.map (·.tag) = s.tp.replies.map (·.tag)) (hheld : s'.pu.held = s.pu.held)
    (hslots : ∀ i, (s'.slot i).claims = (s.slot i).claims) (hqueue : s'.mu.queue = s.mu.queue)
    (hports : ∀ b, (s'.port b).claims b = (s.port b).claims b) : s'.ledger = s.ledger := by
  have hrec : s'.tag = s.tag := by funext t; simp [State.tag, htags]
  simp only [State.ledger, Ledger.mk.injEq]
  refine ⟨hrec, ?_⟩
  funext p
  cases p <;> simp [hreplies, hheld, hslots, hqueue, hports]

/-- A state with the same blocks as far as they hold tags has the same ledger. -/
theorem ledger_of_blocks {s s' : State} (htp : s'.tp = s.tp) (hdsp : s'.dsp = s.dsp) (hrc : s'.rc = s.rc)
    (hpu : s'.pu = s.pu) (hports : s'.ports = s.ports) (hmu : s'.mu = s.mu) : s'.ledger = s.ledger :=
  ledger_congr (by rw [hdsp]) (by rw [htp]) (by rw [hpu]) (fun i => by rw [State.slot, hrc, State.slot]) (by rw [hmu])
    fun b => by rw [State.port, hports, State.port]

end Sys2Proof.Machine
end

section
/-!
The ledger after each shared operation: most leave it as it is, since they change nothing that holds a tag.
-/

namespace Sys2Proof.Machine

/-! ## Operations that change no holder -/

@[simp] theorem ledger_setRecency (s : State) (l : List SlotNo) : (s.setRecency l).ledger = s.ledger := rfl
@[simp] theorem ledger_touch (i : SlotNo) (s : State) : (touch i s).ledger = s.ledger := rfl
@[simp] theorem ledger_leaveRecency (i : SlotNo) (s : State) : (leaveRecency i s).ledger = s.ledger := rfl
@[simp] theorem ledger_withPending (s : State) (cs : List Instr) : (s.withPending cs).ledger = s.ledger := rfl
@[simp] theorem ledger_count (c : Counter) (s : State) : (count c s).ledger = s.ledger := rfl
@[simp] theorem ledger_recordFault (r : FaultRecord) (s : State) : (recordFault r s).ledger = s.ledger := rfl
@[simp] theorem ledger_freePort (s : State) : (freePort s).ledger = s.ledger := rfl
@[simp] theorem ledger_withdrawFill (i : SlotNo) (s : State) : (withdrawFill i s).ledger = s.ledger := rfl
@[simp] theorem ledger_latchPortShut (s : State) : (latchPortShut s).ledger = s.ledger := rfl
@[simp] theorem ledger_setWel (b : Bool) (s : State) : (setWel b s).ledger = s.ledger := rfl
@[simp] theorem ledger_writeChunk (k : Fin 32) (bytes : List Byte) (s : State) :
    (writeChunk k bytes s).ledger = s.ledger := rfl
@[simp] theorem ledger_stopTimer (b : Branch) (s : State) : (stopTimer b s).ledger = s.ledger := by
  simp only [stopTimer, ledger_setPort]
  exact Ledger.setClaims_of_eq _ rfl

@[simp] theorem ledger_statusUpdate (t : Tag) (o : OutcomeCode) (st : Option Byte) (w : Bool) (s : State) :
    (statusUpdate t o st w s).ledger = s.ledger := by apply ledger_of_blocks <;> simp
@[simp] theorem ledger_completeFence (s : State) : (completeFence s).ledger = s.ledger := by
  apply ledger_of_blocks <;> simp
@[simp] theorem ledger_drainReport (s : State) : (drainReport s).ledger = s.ledger := by
  apply ledger_of_blocks <;> simp
@[simp] theorem ledger_judgeFill (i : SlotNo) (u : Byte) (s : State) : (judgeFill i u s).ledger = s.ledger := by
  apply ledger_of_blocks <;> simp
@[simp] theorem ledger_rejudgeFills (s : State) : (rejudgeFills s).ledger = s.ledger := by
  apply ledger_of_blocks <;> simp
@[simp] theorem ledger_resume (s : State) : (resume s).ledger = s.ledger := by apply ledger_of_blocks <;> simp
@[simp] theorem ledger_settle (s : State) : (settle s).ledger = s.ledger := by apply ledger_of_blocks <;> simp
@[simp] theorem ledger_completeOperation (o : Operation) (s : State) : (completeOperation o s).ledger = s.ledger := by
  apply ledger_of_blocks <;> simp
@[simp] theorem ledger_suspendEffective (w : Owner) (o : Operation) (s : State) :
    (suspendEffective w o s).ledger = s.ledger := by apply ledger_of_blocks <;> simp
@[simp] theorem ledger_startOperation (o : StoreOp) (s : State) : (startOperation o s).ledger = s.ledger := by
  apply ledger_of_blocks <;> simp
@[simp] theorem ledger_fillFault (k : FaultKind) (u : Byte) (w : List Tag) (s : State) :
    (fillFault k u w s).ledger = s.ledger := by apply ledger_of_blocks <;> simp
@[simp] theorem ledger_recordEndFault (t : Tag) (o : OutcomeCode) (s : State) :
    (recordEndFault t o s).ledger = s.ledger := by apply ledger_of_blocks <;> simp

/-- A frame received changes the Intake Queue at most. -/
@[simp] theorem ledger_receiveFrame (f : List Byte) (s : State) : (receiveFrame f s).ledger = s.ledger := by
  refine ledger_congr (by simp) ?_ (by simp) (fun i => by simp [State.slot]) (by simp) fun b => by simp [State.port]
  obtain h | h := receiveFrame_tp f s <;> rw [h]

/-- The return of the line to idle changes the line and the Intake Queue at most. -/
@[simp] theorem ledger_returnToIdle (s : State) : (returnToIdle s).ledger = s.ledger := by
  unfold returnToIdle
  split
  · rw [ledger_receiveFrame]; rfl
  · rfl

/-! ## Slots -/

/-- A slot that is not FILLING has no waiters (R26). -/
@[simp] theorem claims_empty : CacheSlot.empty.claims = 0 := rfl
@[simp] theorem claims_valid (u : Byte) (r : Route) (n : Nat) : (CacheSlot.valid u r n).claims = 0 := rfl
@[simp] theorem claims_stale (u : Byte) (r : Route) (n : Nat) : (CacheSlot.stale u r n).claims = 0 := rfl
theorem claims_filling (u : Byte) (m : Bool) (w : List Tag) :
    (CacheSlot.filling u m w).claims = claimsOf w (.waiting u) := rfl

theorem ledger_claims_waiters (s : State) (i : SlotNo) : s.ledger.claims (.waiters i) = (s.slot i).claims := rfl
theorem ledger_claims_port (s : State) (b : Branch) : s.ledger.claims (.port b) = (s.port b).claims b := rfl
theorem ledger_claims_replies (s : State) :
    s.ledger.claims .replies = claimsOf (s.tp.replies.map (·.tag)) .replying := rfl
theorem ledger_claims_held (s : State) : s.ledger.claims .held = claimsOf s.pu.held .held := rfl
theorem ledger_claims_management (s : State) : s.ledger.claims .management = managementClaims s.mu.queue := rfl

/-- A slot that changes but keeps its waiters and their unit. -/
theorem ledger_setSlot_of_claims {s : State} {i : SlotNo} {c : CacheSlot} (h : c.claims = (s.slot i).claims) :
    (s.setSlot i c).ledger = s.ledger := by
  rw [ledger_setSlot]
  exact Ledger.setClaims_of_eq _ h

@[simp] theorem ledger_takeReference (i : SlotNo) (s : State) : (takeReference i s).ledger = s.ledger := by
  unfold takeReference
  split
  case h_1 hs => exact ledger_setSlot_of_claims (by simp [hs])
  case h_2 => rfl

@[simp] theorem ledger_releaseReference (i : SlotNo) (s : State) : (releaseReference i s).ledger = s.ledger := by
  unfold releaseReference
  split
  case h_1 hs => exact ledger_setSlot_of_claims (by simp [hs])
  case h_2 hs =>
    split
    · rw [ledger_drainReport]
      exact ledger_setSlot_of_claims (by simp [hs])
    · exact ledger_setSlot_of_claims (by simp [hs])
  case h_3 => rfl

@[simp] theorem ledger_releaseSlot (o : Option SlotNo) (s : State) : (releaseSlot o s).ledger = s.ledger := by
  cases o <;> simp [releaseSlot]

/-- An invalidation keeps the waiters of a FILLING slot (R42). -/
@[simp] theorem ledger_invalidateSlot (i : SlotNo) (s : State) : (invalidateSlot i s).ledger = s.ledger := by
  unfold invalidateSlot
  split
  case h_1 hs =>
    split <;> exact (ledger_setSlot_of_claims (by simp [leaveRecency, hs])).trans (ledger_leaveRecency i s)
  case h_2 hs => exact ledger_setSlot_of_claims (by simp [hs, claims_filling])
  case h_3 => rfl

@[simp] theorem ledger_invalidateUnit (u : Byte) (s : State) : (invalidateUnit u s).ledger = s.ledger := by
  unfold invalidateUnit
  split <;> simp

@[simp] theorem ledger_performInvalidation (d : Descriptor) (s : State) :
    (performInvalidation d s).ledger = s.ledger := by
  unfold performInvalidation invalidateAll
  split
  · exact foldl_keeps _ State.ledger (fun s i => by simp) _ _
  · exact foldl_keeps _ State.ledger (fun s u => by simp) _ _

/-! ## Replies -/

theorem claimsOf_cons (t : Tag) (l : List Tag) (role : Role) :
    claimsOf (t :: l) role = ⟨t, role⟩ ::ₘ claimsOf l role := rfl

theorem claimsOf_le {l l' : List Tag} (h : l.Sublist l') (role : Role) : claimsOf l role ≤ claimsOf l' role :=
  Multiset.coe_le.2 (h.map _).subperm

theorem claimsOf_perm {l l' : List Tag} (h : l.Perm l') (role : Role) : claimsOf l role = claimsOf l' role :=
  Multiset.coe_eq_coe.2 (h.map _)

theorem mem_claimsOf {l : List Tag} {role : Role} {c : Claim} : c ∈ claimsOf l role ↔ c.tag ∈ l ∧ c.role = role := by
  obtain ⟨t, r⟩ := c
  simp [claimsOf, eq_comm]

@[simp] theorem ledger_appendReply (r : Response) (s : State) :
    (appendReply r s).ledger = s.ledger.setClaims .replies (⟨r.tag, .replying⟩ ::ₘ s.ledger.claims .replies) := by
  simp only [State.ledger, Ledger.setClaims, Ledger.mk.injEq]
  refine ⟨rfl, ?_⟩
  funext p
  cases p with
  | replies =>
    rw [Function.update_self, ← claimsOf_cons]
    exact claimsOf_perm (by simp [List.perm_append_singleton]) _
  | _ => rfl

/-- The end of a transaction gives its tag to the Reply Queue (R20). -/
theorem ledger_endTransaction (t : Tag) (o : OutcomeCode) (st : Option Byte) (w : Bool) (p : List Byte) (s : State) :
    (endTransaction t o st w p s).ledger =
      (s.ledger.setClaims .replies (⟨t, .replying⟩ ::ₘ s.ledger.claims .replies)).setRecord t
        { s.tag t with state := .replying, outcome := some o, members := Vector.replicate 4 none } := by
  simp [endTransaction]

/-- A loose transaction that ends moves to the Reply Queue. -/
theorem moves_endTransaction {s : State} {t : Tag} (h : s.ledger.Loose t) (o : OutcomeCode) (st : Option Byte) (w : Bool)
    (p : List Byte) : s.ledger.Moves t (endTransaction t o st w p s).ledger := by
  rw [ledger_endTransaction]
  exact .of_setRecord ((h.setRecord { s.tag t with state := .replying, outcome := some o, members := Vector.replicate 4 none }).gain
    (p := .replies) (role := .replying) le_rfl (by simp [Role.fits]))

theorem moves_endPlain {s : State} {t : Tag} (h : s.ledger.Loose t) (o : OutcomeCode) :
    s.ledger.Moves t (endPlain t o s).ledger := moves_endTransaction h ..

end Sys2Proof.Machine
end

section
/-!
The transactions that the Dispatcher, the Route Cache and the Policy Unit move: each operation moves the loose tag it is given, and no other.
-/

namespace Sys2Proof.Machine

/-! ## Which places a record can be held by -/

/-- A place can hold a tag whose record stands like this. -/
def Place.admits (r : TagRecord) : Place → Prop
  | .replies => r.state = .replying
  | .held => r.state = .held
  | .waiters _ => r.state = .lookup
  | .management => r.state = .mgmt
  | .port b =>
    (r.state = .queued ∨ r.state = .active) ∧ r.facts.map (·.branch) = some b ∨
    r.state = .bcast ∧ r.members[b.val] = some .pending

/-- The claim of an exchange asks for an exchange in progress at the port. -/
theorem role_of_mem_exchange {e : ExchangeState} {b : Branch} {c : Claim} (hc : c ∈ e.claims b) :
    (∃ kind, c.role = .atPort b kind true) ∨ c.role = .nobody := by
  unfold ExchangeState.claims Exchange.claims at hc
  split at hc
  · split at hc
    · simp at hc
    · split at hc
      · rw [Multiset.mem_singleton.1 hc]; exact .inl ⟨_, rfl⟩
      · rw [Multiset.mem_singleton.1 hc]; exact .inr rfl
  · simp at hc

/-- The claims of a port ask for a state at the port. -/
theorem role_of_mem_port {p : BranchPort} {b : Branch} {c : Claim} (hc : c ∈ p.claims b) :
    (∃ kind active, c.role = .atPort b kind active) ∨ c.role = .nobody := by
  rcases Multiset.mem_add.1 hc with hc | hc
  · obtain ⟨e, -, rfl⟩ := List.mem_map.1 (Multiset.mem_coe.1 hc)
    exact .inl ⟨_, _, rfl⟩
  · exact (role_of_mem_exchange hc).imp (fun ⟨kind, hrole⟩ => ⟨kind, true, hrole⟩) id

/-- Where the ledger agrees, a tag is held only by places that its record admits. -/
theorem admits_of_mem {s : State} (h : s.ledger.Agrees) {p : Place} {c : Claim} (hc : c ∈ s.ledger.claims p) :
    p.admits (s.tag c.tag) := by
  have hfit : c.role.fits (s.tag c.tag) := (h p).2 c hc
  cases p with
  | replies => rw [(mem_claimsOf.1 hc).2] at hfit; exact hfit
  | held => rw [(mem_claimsOf.1 hc).2] at hfit; exact hfit
  | waiters i => rw [(mem_claimsOf.1 hc).2] at hfit; exact hfit.1
  | management => rw [(mem_claimsOf.1 hc).2] at hfit; exact hfit
  | port b =>
    rcases role_of_mem_port hc with ⟨kind, active, hrole⟩ | hrole
    · rw [hrole] at hfit
      cases kind with
      | unit => exact .inl ⟨by cases active <;> simp [hfit.1], hfit.2⟩
      | member => exact .inr hfit
    · rw [hrole] at hfit; exact hfit.elim

/-- A tag is loose when the places that its record admits do not hold it. -/
theorem loose_of_admits {s : State} {t : Tag} (h : s.ledger.Agrees)
    (hp : ∀ p : Place, p.admits (s.tag t) → ∀ c ∈ s.ledger.claims p, c.tag ≠ t) : s.ledger.Loose t :=
  ⟨h, fun p c hc hct => hp p (hct ▸ admits_of_mem h hc) c hc hct⟩

/-- The tag of a FREE record is loose. -/
theorem loose_of_free {s : State} {t : Tag} (h : s.ledger.Agrees) (ht : (s.tag t).state = .free) : s.ledger.Loose t :=
  loose_of_admits h fun p hp => by cases p <;> simp [Place.admits, ht] at hp

theorem loose_setTag {s : State} {t : Tag} (h : s.ledger.Loose t) (r : TagRecord) : (s.setTag t r).ledger.Loose t := by
  rw [ledger_setTag]
  exact h.setRecord r

theorem moves_of_setTag {s : State} {t : Tag} {r : TagRecord} {L : Ledger} (h : (s.setTag t r).ledger.Moves t L) :
    s.ledger.Moves t L := by
  rw [ledger_setTag] at h
  exact h.of_setRecord

/-! ## The policy check (R11 to R14) -/

theorem insertByDispatch_perm (s : State) (t : Tag) (l : List Tag) : (insertByDispatch s t l).Perm (t :: l) := by
  induction l with
  | nil => rfl
  | cons u us ih =>
    simp only [insertByDispatch]
    split
    · exact (ih.cons u).trans (.swap t u us)
    · rfl

/-- A transaction that is held moves to the held list (R11). -/
theorem moves_hold {s : State} {t : Tag} (h : s.ledger.Loose t) : s.ledger.Moves t (hold t s).ledger := by
  have hledger : (hold t s).ledger =
      (s.setTag t { s.tag t with state := .held }).ledger.setClaims .held (⟨t, .held⟩ ::ₘ s.ledger.claims .held) := by
    simp only [State.ledger, Ledger.setClaims, Ledger.mk.injEq]
    refine ⟨rfl, ?_⟩
    funext p
    cases p with
    | held =>
      rw [Function.update_self, ← claimsOf_cons]
      exact claimsOf_perm (insertByDispatch_perm _ _ _) _
    | _ => rfl
  rw [hledger]
  exact moves_of_setTag ((loose_setTag h _).gain (role := .held) (by simp) (by simp [Role.fits]))

theorem moves_refuse {s : State} {t : Tag} (h : s.ledger.Loose t) (o : OutcomeCode) :
    s.ledger.Moves t (refuse t o s).ledger := by
  simpa [refuse] using moves_endPlain h o

theorem moves_refuseIllegal {s : State} {t : Tag} (h : s.ledger.Loose t) (channel : Nat) :
    s.ledger.Moves t (refuseIllegal t channel s).ledger := by
  simpa [refuseIllegal] using moves_refuse h .refusedIllegal

theorem moves_answerLocally {s : State} {t : Tag} (h : s.ledger.Loose t) (route : Route) :
    s.ledger.Moves t (answerLocally t route s).ledger := by
  simpa [answerLocally] using moves_endTransaction h _ none false _

theorem queueClaims_append (q : List QueueEntry) (e : QueueEntry) (b : Branch) :
    queueClaims (q ++ [e]) b = ⟨e.tag, .atPort b e.kind false⟩ ::ₘ queueClaims q b :=
  Multiset.coe_eq_coe.2 (by simp [List.perm_append_singleton])

/-- An entry that joins a Branch Queue adds its claim. -/
theorem portClaims_enqueue (p : BranchPort) (e : QueueEntry) (b : Branch) :
    BranchPort.claims { p with queue := p.queue ++ [e] } b = ⟨e.tag, .atPort b e.kind false⟩ ::ₘ p.claims b := by
  simp [BranchPort.claims, queueClaims_append]

/-- A request that passed every check moves to the Branch Queue of its branch (R14). -/
theorem moves_enterQueue {s : State} {t : Tag} (h : s.ledger.Loose t) (i : SlotNo) {branch : Branch}
    (hfacts : (s.tag t).facts.map (·.branch) = some branch) :
    s.ledger.Moves t (enterQueue t i branch s).ledger := by
  refine moves_of_setTag (r := { s.tag t with state := .queued, slot := some i }) ?_
  simp only [enterQueue, ledger_setPort, ledger_takeReference, portClaims_enqueue]
  refine (loose_setTag h _).gain (role := .atPort branch .unit false) ?_ (by simp [Role.fits, hfacts])
  rw [ledger_claims_port]
  simp [State.port]

theorem moves_portChecks {s : State} {t : Tag} (h : s.ledger.Loose t) (i : SlotNo) {branch : Branch}
    (hfacts : (s.tag t).facts.map (·.branch) = some branch) :
    s.ledger.Moves t (portChecks t i branch s).ledger := by
  unfold portChecks
  split
  · exact moves_endPlain h _
  · split
    · exact moves_endPlain h _
    · exact moves_enterQueue h i hfacts

theorem moves_actionChecks {s : State} {t : Tag} (h : s.ledger.Loose t) (i : SlotNo) {route : Route}
    (hfacts : (s.tag t).facts.map (·.branch) = some route.branch) :
    s.ledger.Moves t (actionChecks t i route s).ledger := by
  unfold actionChecks
  dsimp only
  split
  · exact moves_refuseIllegal h _
  · split
    · exact moves_refuseIllegal h _
    · exact moves_refuse h _
    · exact moves_answerLocally h _
    · exact moves_portChecks h i hfacts

/-- A judged unit request moves to the Reply Queue or to a Branch Queue (R12). -/
theorem moves_judgeUnitRequest {s : State} {t : Tag} (h : s.ledger.Loose t) (i : SlotNo) (route : Route) :
    s.ledger.Moves t (judgeUnitRequest t i route s).ledger := by
  unfold judgeUnitRequest
  dsimp only
  have hfacts := loose_setTag h { s.tag t with facts := some (routeFacts (s.tag t) route) }
  refine moves_of_setTag (r := { s.tag t with facts := some (routeFacts (s.tag t) route) }) ?_
  split
  · exact moves_refuse hfacts _
  · exact moves_answerLocally hfacts _
  · exact moves_actionChecks hfacts i (by simp [routeFacts])

theorem moves_unitPolicyCheck {s : State} {t : Tag} (h : s.ledger.Loose t) (i : SlotNo) (route : Route) :
    s.ledger.Moves t (unitPolicyCheck t i route s).ledger := by
  unfold unitPolicyCheck
  split
  · exact moves_hold h
  · exact moves_judgeUnitRequest h i route

end Sys2Proof.Machine
end

section
/-!
Broadcasts: the fan-out in one step, branch by branch, and the end of a broadcast none of whose members is pending (R15, R16).
-/

namespace Sys2Proof.Machine

/-- The branch is a member of a broadcast fanned out from this state (R15). -/
def fansTo (s : State) (b : Branch) : Bool := s.config.broadcast[b.val] && (s.port b).state == .enabled

/-- How a branch stands in a broadcast after the fan-out (R15): nothing when it is no member. -/
def fannedMember (s : State) (b : Branch) : Option MemberState :=
  if fansTo s b = true then if (s.port b).queue.length < Config.branchQueueCapacity then some .pending else some .failed else none

/-- The port of a branch after the fan-out of a broadcast (R15). -/
def fannedPort (t : Tag) (s : State) (b : Branch) : BranchPort :=
  if fansTo s b = true ∧ (s.port b).queue.length < Config.branchQueueCapacity then
    { s.port b with queue := (s.port b).queue ++ [{ tag := t, kind := .member }] }
  else s.port b

/-- A broadcast that has been fanned out to some of the branches. -/
def fannedTo (t : Tag) (s : State) (l : List Branch) : State :=
  { s.setTag t
      { s.tag t with
        state := .bcast
        members := Vector.ofFn fun b => if b ∈ l then fannedMember s b else none } with
    ports := Vector.ofFn fun b => if b ∈ l then fannedPort t s b else s.port b }

@[simp] theorem config_fannedTo (t : Tag) (s : State) (l : List Branch) : (fannedTo t s l).config = s.config := rfl

theorem port_fannedTo (t : Tag) (s : State) (l : List Branch) (b : Branch) :
    (fannedTo t s l).port b = if b ∈ l then fannedPort t s b else s.port b := by
  simp [State.port, fannedTo]

theorem tag_fannedTo (t : Tag) (s : State) (l : List Branch) :
    (fannedTo t s l).tag t =
      { s.tag t with state := .bcast, members := Vector.ofFn fun b => if b ∈ l then fannedMember s b else none } :=
  tag_setTag_self s t _

/-- A vector over the branches given by a function is changed at one branch. -/
theorem set_ofFn {α : Type} (f g : Branch → α) (b : Branch) (x : α) (hb : g b = x) (hne : ∀ c, c ≠ b → g c = f c) :
    (Vector.ofFn f).set b.val x = Vector.ofFn g := by
  ext i hi
  by_cases h : b.val = i
  · subst h; simp [hb]
  · have : (⟨i, hi⟩ : Branch) ≠ b := fun heq => h (by rw [← heq])
    simp [h, hne _ this]

/-- A broadcast fanned out to some branches becomes one fanned out to others when its record and the ports do. -/
theorem fannedTo_update {t : Tag} {s : State} {l l' : List Branch} {r : TagRecord} {ports : Vector BranchPort 4}
    (hr : r = (fannedTo t s l').tag t) (hports : ports = (fannedTo t s l').ports) :
    { (fannedTo t s l).setTag t r with ports := ports } = fannedTo t s l' := by
  subst hr hports
  rw [tag_fannedTo]
  simp [fannedTo, State.setTag]

/-- The next branch of a fan-out (R15). -/
theorem fanOutTo_fannedTo (t : Tag) (s : State) {l : List Branch} {b : Branch} (hb : b ∉ l) :
    fanOutTo t (fannedTo t s l) b = fannedTo t s (b :: l) := by
  have hport : (fannedTo t s l).port b = s.port b := by rw [port_fannedTo, if_neg hb]
  have hmembers : ∀ m, fannedMember s b = some m →
      { (fannedTo t s l).tag t with members := ((fannedTo t s l).tag t).members.set b.val (some m) } =
        (fannedTo t s (b :: l)).tag t := fun m hm => by
    simp only [tag_fannedTo]
    congr 1
    exact set_ofFn _ _ b _ (by simp [hm]) fun c hc => by simp [hc]
  have hports : (fannedTo t s l).ports.set b.val (fannedPort t s b) = (fannedTo t s (b :: l)).ports :=
    set_ofFn _ _ b _ (by simp) fun c hc => by simp [hc]
  unfold fanOutTo
  rw [hport]
  split
  case isTrue hmember =>
    have hfans : fansTo s b = true := by simpa [fansTo] using hmember
    split
    case isTrue hroom =>
      refine fannedTo_update (hmembers .pending (by simp [fannedMember, hfans, hroom])) ?_
      rw [← hports]; simp [fannedPort, hfans, hroom, State.setPort]
    case isFalse hfull =>
      refine fannedTo_update (hmembers .failed (by simp [fannedMember, hfans, hfull])) ?_
      rw [← hports]
      exact (set_ofFn _ _ b _ (by simp [hb, fannedPort, hfull]) fun c _ => rfl).symm
  case isFalse hmember =>
    have hfans : fansTo s b = false := by simpa [fansTo] using hmember
    have hmember : (fun c => if c ∈ l then fannedMember s c else none) =
        fun c => if c ∈ b :: l then fannedMember s c else none := by
      funext c
      by_cases hc : c = b <;> simp [hc, hb, fannedMember, hfans]
    have hport : (fun c => if c ∈ l then fannedPort t s c else s.port c) =
        fun c => if c ∈ b :: l then fannedPort t s c else s.port c := by
      funext c
      by_cases hc : c = b <;> simp [hc, hb, fannedPort, hfans]
    simp only [fannedTo, hmember, hport]

/-- A fan-out over branches, each once. -/
theorem foldl_fanOutTo (t : Tag) (s : State) : ∀ (bs l : List Branch), bs.Nodup → bs.Disjoint l →
    bs.foldl (fanOutTo t) (fannedTo t s l) = fannedTo t s (bs.reverse ++ l)
  | [], _, _, _ => rfl
  | b :: bs, l, hbs, hl => by
    obtain ⟨hb, hnodup⟩ := List.nodup_cons.1 hbs
    obtain ⟨hbl, hdisjoint⟩ := List.disjoint_cons_left.1 hl
    rw [List.foldl_cons, fanOutTo_fannedTo t s hbl, foldl_fanOutTo t s bs (b :: l) hnodup]
    · simp
    · exact List.disjoint_cons_right.2 ⟨hb, hdisjoint⟩

/-- A broadcast that has been fanned out to every branch: its record, with how each branch stands, and the ports. -/
def fanned (t : Tag) (s : State) : State :=
  { s.setTag t { s.tag t with state := .bcast, members := Vector.ofFn (fannedMember s) } with
    ports := Vector.ofFn (fannedPort t s) }

/-- The fan-out of a broadcast, in one step (R15). -/
theorem fanOut_eq (t : Tag) (s : State) : fanOut t s = decideBroadcast t (fanned t s) := by
  have hstart : s.setTag t { s.tag t with state := .bcast, members := Vector.replicate 4 none } = fannedTo t s [] := by
    have hnone : Vector.replicate 4 (none : Option MemberState) = Vector.ofFn fun _ => none := by decide
    have hports : s.ports = Vector.ofFn s.port := by ext i hi : 1; simp [State.port]
    simp only [fannedTo, List.not_mem_nil, if_false, ← hnone]
    rw [State.setTag]
    congr 1
  have hend : fannedTo t s ((List.finRange 4).reverse ++ []) = fanned t s := by
    simp [fannedTo, fanned]
  unfold fanOut
  dsimp only
  rw [hstart, foldl_fanOutTo t s _ _ (List.nodup_finRange 4) (List.disjoint_nil_right _), hend]

theorem tag_fanned (t : Tag) (s : State) :
    (fanned t s).tag t = { s.tag t with state := .bcast, members := Vector.ofFn (fannedMember s) } :=
  tag_setTag_self s t _

theorem port_fanned (t : Tag) (s : State) (b : Branch) : (fanned t s).port b = fannedPort t s b := by
  simp [State.port, fanned]

/-- A fan-out gives a loose tag to the ports where it has a pending member. -/
theorem moves_fanned {s : State} {t : Tag} (h : s.ledger.Loose t) : s.ledger.Moves t (fanned t s).ledger := by
  refine h.gives (fun v hv => tag_setTag_ne s _ hv) fun p => ?_
  cases p with
  | port b =>
    rw [ledger_claims_port, ledger_claims_port, port_fanned, fannedPort]
    split
    case isTrue hroom =>
      rw [portClaims_enqueue]
      refine .inr ⟨.atPort b .member false, ?_, le_rfl⟩
      simp [tag_fanned, Role.fits, fannedMember, hroom.1, hroom.2]
    case isFalse => exact .inl le_rfl
  | _ => exact .inl le_rfl

/-- A broadcast with no pending member is held by no place. -/
theorem loose_of_no_member {s : State} {t : Tag} (h : s.ledger.Agrees) (hstate : (s.tag t).state = .bcast)
    (hmembers : anyMember (s.tag t).members .pending = false) : s.ledger.Loose t :=
  loose_of_admits h fun p hp => by
    cases p with
    | port b =>
      have hb : (s.tag t).members[b.val] = some .pending := by simpa [Place.admits, hstate] using hp
      simp only [anyMember, List.any_eq_false] at hmembers
      exact absurd (by simp [hb]) (hmembers b (List.mem_finRange b))
    | _ => simp [Place.admits, hstate] at hp

/-- A broadcast whose outcome is decided moves to the Reply Queue; one that has pending members stays where it is (R16). -/
theorem moves_decideBroadcast {s : State} {t : Tag} (h : s.ledger.Agrees) (hstate : (s.tag t).state = .bcast) :
    s.ledger.Moves t (decideBroadcast t s).ledger := by
  unfold decideBroadcast
  dsimp only
  split
  case isTrue => exact ⟨fun _ _ => rfl, fun _ _ hc _ => hc, h⟩
  case isFalse hnone =>
    have hloose : s.ledger.Loose t := loose_of_no_member h hstate (by simpa using hnone)
    split
    · split
      · exact moves_endTransaction hloose ..
      · exact moves_endPlain hloose _
    · exact moves_endPlain hloose _

theorem moves_fanOut {s : State} {t : Tag} (h : s.ledger.Loose t) : s.ledger.Moves t (fanOut t s).ledger := by
  rw [fanOut_eq]
  have hfanned := moves_fanned h
  exact hfanned.trans (moves_decideBroadcast hfanned.agrees (by rw [tag_fanned]))

/-- A judged broadcast moves to the Reply Queue or to the Branch Queues of its members (R10, R15). -/
theorem moves_judgeBroadcast {s : State} {t : Tag} (h : s.ledger.Loose t) :
    s.ledger.Moves t (judgeBroadcast t s).ledger := by
  unfold judgeBroadcast
  dsimp only
  split
  · exact moves_refuseIllegal h _
  · exact moves_refuse h _
  · rw [ledger_count]; exact moves_endPlain h _
  · exact moves_fanOut h

theorem moves_broadcastPolicyCheck {s : State} {t : Tag} (h : s.ledger.Loose t) :
    s.ledger.Moves t (broadcastPolicyCheck t s).ledger := by
  unfold broadcastPolicyCheck
  split
  · exact moves_hold h
  · exact moves_judgeBroadcast h

end Sys2Proof.Machine
end

section
/-!
Lookups, dispatches and fills: the tags that they move, and the events that end in them (R4 to R10, R29 to R39, R61).
-/

namespace Sys2Proof.Machine

/-! ## Lookups (R29 to R31) -/

/-- The slot found for a unit matches it (R27). -/
theorem matchesUnit_of_matching {c : RouteCache} {u : Byte} {i : SlotNo} (h : c.matching u = some i) :
    c.slots[i.val].matchesUnit u = true := by
  simpa using List.find?_some h

theorem moves_lookupHit {s : State} {t : Tag} (h : s.ledger.Loose t) (i : SlotNo) (route : Route) :
    s.ledger.Moves t (lookupHit t i route s).ledger :=
  moves_unitPolicyCheck (s := count (.bridge .cacheHits) (touch i s)) (by simpa using h) i route

/-- A transaction that joins a fill of its unit moves to the waiters of the slot (R30). -/
theorem moves_lookupJoin {s : State} {t : Tag} (h : s.ledger.Loose t) {i : SlotNo} {unit : Byte} {mark : Bool}
    {waiters : List Tag} (hslot : s.slot i = .filling unit mark waiters) (hstate : (s.tag t).state = .lookup)
    (hunit : (s.tag t).unit = unit) : s.ledger.Moves t (lookupJoin t i unit mark waiters s).ledger := by
  simp only [lookupJoin, ledger_count, ledger_setSlot]
  refine h.gain (role := .waiting unit) ?_ ⟨hstate, hunit⟩
  rw [ledger_claims_waiters, hslot, claims_filling, claims_filling, ← claimsOf_cons]
  exact (claimsOf_perm (insertByDispatch_perm s t waiters) _).le

/-- A transaction that misses moves to the waiters of the slot that is claimed for it (R31). -/
theorem moves_lookupMiss {s : State} {t : Tag} (h : s.ledger.Loose t) {unit : Byte}
    (hstate : (s.tag t).state = .lookup) (hunit : (s.tag t).unit = unit) :
    s.ledger.Moves t (lookupMiss t unit s).ledger := by
  unfold lookupMiss
  split
  case h_1 => exact h.moves
  case h_2 i _ =>
    have hledger : (claimSlot t i unit s).ledger = s.ledger.setClaims (.waiters i) (claimsOf [t] (.waiting unit)) := by
      simp [claimSlot, claims_filling]
    have hmoves : s.ledger.Moves t (claimSlot t i unit s).ledger := by
      rw [hledger]
      exact h.gain (role := .waiting unit) (Multiset.cons_le_cons _ (Multiset.zero_le _)) ⟨hstate, hunit⟩
    dsimp only
    split <;> simpa using hmoves

/-- A transaction in LOOKUP whose route is asked of the Route Cache moves on, or waits for a fill (R9). -/
theorem moves_lookup {s : State} {t : Tag} (h : s.ledger.Loose t) (hstate : (s.tag t).state = .lookup) :
    s.ledger.Moves t (lookup t s).ledger := by
  unfold lookup
  dsimp only
  split
  case h_1 => exact moves_lookupMiss h hstate rfl
  case h_2 i hi =>
    have hmatch : (s.slot i).matchesUnit (s.tag t).unit = true := matchesUnit_of_matching hi
    split
    case h_1 => exact moves_lookupHit h _ _
    case h_2 u mark waiters hslot =>
      have hu : u = (s.tag t).unit := by simpa [hslot, CacheSlot.matchesUnit] using hmatch
      exact moves_lookupJoin h hslot hstate hu.symm
    case h_3 => exact h.moves

/-! ## Dispatch (R4 to R8) -/

@[simp] theorem ledger_fillRecord (r : RequestFrame) (s : State) :
    (fillRecord r s).ledger = (s.setTag r.tag (newRecord s.dsp.nextSeq r)).ledger := rfl

@[simp] theorem tag_fillRecord_self (r : RequestFrame) (s : State) :
    (fillRecord r s).tag r.tag = newRecord s.dsp.nextSeq r := tag_setTag_self s _ _

theorem moves_answerBad {r : RequestFrame} {s : State} (h : s.ledger.Loose r.tag) :
    s.ledger.Moves r.tag (answerBad r s).ledger := by
  simpa [answerBad] using moves_endPlain h .badRequest

theorem managementClaims_append (q : List ManagementEntry) (t : Tag) :
    managementClaims (q ++ [.waiting t]) = ⟨t, .management⟩ ::ₘ managementClaims q := by
  rw [managementClaims, managementClaims, ← claimsOf_cons]
  exact claimsOf_perm (by simp [ManagementEntry.tag, List.perm_append_singleton]) _

/-- A management request is refused, or moves to the Management Queue (R7). -/
theorem moves_managementRequest {r : RequestFrame} {s : State} (h : s.ledger.Loose r.tag) :
    s.ledger.Moves r.tag (managementRequest r s).ledger := by
  unfold managementRequest
  split
  · exact moves_endPlain h _
  · split
    · exact moves_endPlain h _
    · refine moves_of_setTag (r := { s.tag r.tag with state := .mgmt }) ?_
      refine (loose_setTag h _).gives (fun _ _ => rfl) fun p => ?_
      cases p with
      | management => exact .inr ⟨.management, by simp [State.ledger, State.tag, State.setTag, Role.fits], (managementClaims_append _ _).le⟩
      | _ => exact .inl le_rfl

theorem moves_answerQuery {r : RequestFrame} {s : State} (h : s.ledger.Loose r.tag) :
    s.ledger.Moves r.tag (answerQuery r s).ledger := moves_endTransaction h ..

/-- A good request moves to where its unit and its op send it (R7 to R10). -/
theorem moves_classify {r : RequestFrame} {s : State} (h : s.ledger.Loose r.tag)
    (hstate : (s.tag r.tag).state = .lookup) : s.ledger.Moves r.tag (classify r s).ledger := by
  unfold classify
  split
  · exact moves_managementRequest h
  · split
    · exact moves_broadcastPolicyCheck h
    · split
      · exact moves_answerQuery h
      · exact moves_lookup h hstate

/-- A frame dispatched keeps the ledger in agreement (R4). -/
theorem agrees_dispatchFrame {s : State} (h : s.ledger.Agrees) (r : RequestFrame) :
    (dispatchFrame r s).ledger.Agrees := by
  unfold dispatchFrame
  split
  case isTrue => simpa [discardReuse] using h
  case isFalse hfree =>
    have hloose : (fillRecord r s).ledger.Loose r.tag :=
      loose_setTag (loose_of_free h (by simpa using hfree)) _
    split
    · exact (moves_answerBad hloose).agrees
    · exact (moves_classify hloose (by simp [newRecord])).agrees

/-! ## Fills (R35 to R39) -/

/-- The waiters of a FILLING slot are held by no other place (R27), so they are loose once the slot gives them up. -/
theorem loose_waiter {s : State} (h : s.ledger.Agrees) (hcache : CacheSound s.rc) {i : SlotNo} {unit : Byte}
    {mark : Bool} {waiters : List Tag} (hslot : s.slot i = .filling unit mark waiters) {c : CacheSlot}
    (hc : c.claims = 0) {t : Tag} (ht : t ∈ waiters) : (s.setSlot i c).ledger.Loose t := by
  have hagrees : (s.setSlot i c).ledger.Agrees := by
    rw [ledger_setSlot, hc]
    exact h.drop (Multiset.zero_le _)
  have hmem : ∀ {j u m w}, s.slot j = .filling u m w → t ∈ w → (s.tag t).state = .lookup ∧ (s.tag t).unit = u :=
    fun {j u m w} hj hw => (h (.waiters j)).2 ⟨t, .waiting u⟩ (mem_claimsOf.2 (by simp [hj, CacheSlot.waiters, CacheSlot.unit, hw]))
  obtain ⟨hstate, hunit⟩ := hmem hslot ht
  refine loose_of_admits hagrees fun p hp d hd hdt => ?_
  cases p with
  | waiters j =>
    by_cases hji : j = i
    · subst hji
      simp [ledger_setSlot, hc] at hd
    · rw [ledger_setSlot, Ledger.setClaims_claims_ne _ _ (by simpa using hji), ledger_claims_waiters] at hd
      cases hj : s.slot j with
      | filling u m w =>
        have hw : t ∈ w := by simpa [hj, hdt, CacheSlot.waiters] using (mem_claimsOf.1 hd).1
        have hu : u = unit := by rw [← (hmem hj hw).2, hunit]
        have hmatch : (s.slot j).matchesUnit unit = true := by simp [hj, CacheSlot.matchesUnit, hu]
        have hother : (s.slot i).matchesUnit unit = false := hcache.1 j i hji unit hmatch
        simp [hslot, CacheSlot.matchesUnit] at hother
      | _ => simp [hj] at hd
  | _ => simp [Place.admits, hstate] at hp

theorem nodup_waiters {s : State} (h : s.ledger.Agrees) {i : SlotNo} {unit : Byte} {mark : Bool} {waiters : List Tag}
    (hslot : s.slot i = .filling unit mark waiters) : waiters.Nodup := by
  have hnodup := (h (.waiters i)).1
  rw [ledger_claims_waiters, hslot, claims_filling] at hnodup
  simpa [claimsOf, Function.comp_def] using hnodup

/-- The waiters of a slot move one after another, once the slot has given them up. -/
theorem agrees_foldl_waiters {s u : State} (h : s.ledger.Agrees) (hcache : CacheSound s.rc) {i : SlotNo} {unit : Byte}
    {mark : Bool} {waiters : List Tag} (hslot : s.slot i = .filling unit mark waiters) {c : CacheSlot}
    (hc : c.claims = 0) (hu : u.ledger = (s.setSlot i c).ledger) (f : State → Tag → State)
    (hf : ∀ (s : State) (t : Tag), s.ledger.Loose t → s.ledger.Moves t (f s t).ledger) :
    (waiters.foldl f u).ledger.Agrees := by
  refine Ledger.agrees_foldl f hf waiters u (nodup_waiters h hslot) ?_ fun t ht => ?_
  · rw [hu, ledger_setSlot, hc]
    exact h.drop (Multiset.zero_le _)
  · rw [hu]
    exact (loose_waiter h hcache hslot hc ht).unclaimed

theorem agrees_fillMarked {s : State} (h : s.ledger.Agrees) {i : SlotNo} {unit : Byte} {mark : Bool}
    {waiters : List Tag} (hslot : s.slot i = .filling unit mark waiters) :
    (fillMarked i unit waiters s).ledger.Agrees := by
  unfold fillMarked
  split
  · rw [ledger_drainReport, ledger_setSlot]
    exact h.drop (Multiset.zero_le _)
  · rw [ledger_drainReport, ledger_judgeFill, ledger_setSlot_of_claims (by rw [hslot]; rfl)]
    exact h

/-- The result of a fill keeps the ledger in agreement. -/
theorem agrees_fillResult {s : State} (h : s.ledger.Agrees) (hcache : CacheSound s.rc) (i : SlotNo)
    (bytes : List Byte) : (fillResult i bytes s).ledger.Agrees := by
  unfold fillResult
  split
  case h_1 hslot => exact agrees_fillMarked h hslot
  case h_2 unit waiters hslot =>
    split
    · exact agrees_foldl_waiters h hcache hslot (claims_valid unit _ 0) (ledger_touch _ _) _
        fun s t ht => moves_unitPolicyCheck ht i _
    · exact agrees_foldl_waiters h hcache hslot claims_empty (ledger_fillFault ..) _ fun s t ht => moves_endPlain ht _
    · exact agrees_foldl_waiters h hcache hslot claims_empty (ledger_fillFault ..) _ fun s t ht => moves_endPlain ht _
  case h_3 => exact h

/-- The refusal of a fill keeps the ledger in agreement (R37). -/
theorem agrees_fillRefused {s : State} (h : s.ledger.Agrees) (hcache : CacheSound s.rc) (i : SlotNo) :
    (fillRefused i s).ledger.Agrees := by
  unfold fillRefused
  split
  case h_1 unit mark waiters hslot =>
    have hended : (endWaiters .storeBusy waiters (s.setSlot i .empty)).ledger.Agrees :=
      agrees_foldl_waiters h hcache hslot claims_empty rfl _ fun s t ht => moves_endPlain ht _
    dsimp only
    split
    · rwa [ledger_drainReport]
    · exact hended
  case h_2 => exact h

/-! ## The release of held transactions (R11, R61) -/

theorem moves_release {s : State} {t : Tag} (h : s.ledger.Loose t) : s.ledger.Moves t (release s t).ledger := by
  unfold release
  split
  · exact moves_broadcastPolicyCheck h
  · exact moves_of_setTag (r := { s.tag t with state := .lookup }) (moves_lookup (loose_setTag h _) (by simp))

/-- The completion of an activation keeps the ledger in agreement: the held list gives up its tags, and each is released. -/
theorem agrees_completeActivation {s : State} (h : s.ledger.Agrees) (bad : Nat) :
    (completeActivation bad s).ledger.Agrees := by
  unfold completeActivation
  generalize hu : ({ s with pu := { s.pu with generation := s.pu.generation + 1, undecodable := bad, activation := .idle, held := [] } } : State) = u
  have hledger : u.ledger = s.ledger.setClaims .held 0 := by
    subst hu
    simp only [State.ledger, Ledger.setClaims, Ledger.mk.injEq]
    refine ⟨rfl, ?_⟩
    funext p
    cases p <;> rfl
  have hheld : s.pu.held.Nodup ∧ ∀ t ∈ s.pu.held, (s.tag t).state = .held := (claimsOf_agree s.pu.held .held s.tag).1 (h .held)
  have hagrees : u.ledger.Agrees := hledger ▸ h.drop (Multiset.zero_le _)
  refine Ledger.agrees_foldl release (fun s t ht => moves_release ht) _ _ hheld.1 hagrees fun t ht => ?_
  have hstate : (u.tag t).state = .held := by subst hu; exact hheld.2 t ht
  refine (loose_of_admits hagrees fun p hp c hc => ?_).unclaimed
  cases p with
  | held => simp [hledger] at hc
  | _ => simp [Place.admits, hstate] at hp

theorem agrees_chunkArrived {s : State} (h : s.ledger.Agrees) (k : Fin 32) (bad : Nat) (bytes : List Byte) :
    (chunkArrived k bad bytes s).ledger.Agrees := by
  unfold chunkArrived
  dsimp only
  split
  · exact agrees_completeActivation (by simpa using h) _
  · exact h

end Sys2Proof.Machine
end

section
/-!
The branch ports: the ends of exchanges and of queue entries, the taking of the head, attempts and shutdown keep the ledger in agreement (R69 to R90).
-/

namespace Sys2Proof.Machine

/-! ## A report to the Dispatcher does not depend on the ports -/

theorem completeFence_setPort (b : Branch) (p : BranchPort) (s : State) :
    completeFence (s.setPort b p) = (completeFence s).setPort b p := by
  unfold completeFence
  rw [setPort_iqe]
  split <;> rfl

theorem drainReport_setPort (b : Branch) (p : BranchPort) (s : State) :
    drainReport (s.setPort b p) = (drainReport s).setPort b p := by
  unfold drainReport
  rw [setPort_iqe, setPort_rc]
  split
  · exact completeFence_setPort b p s
  · rfl

theorem releaseSlot_setPort (o : Option SlotNo) (b : Branch) (p : BranchPort) (s : State) :
    releaseSlot o (s.setPort b p) = (releaseSlot o s).setPort b p := by
  cases o with
  | none => rfl
  | some i =>
    simp only [releaseSlot, releaseReference, setPort_slot]
    split
    · rfl
    · split
      · exact drainReport_setPort b p (s.setSlot i .empty)
      · rfl
    · rfl

theorem recordEndFault_setPort (t : Tag) (o : OutcomeCode) (b : Branch) (p : BranchPort) (s : State) :
    recordEndFault t o (s.setPort b p) = (recordEndFault t o s).setPort b p := by
  unfold recordEndFault
  split <;> rfl

theorem endTransaction_setPort (t : Tag) (o : OutcomeCode) (st : Option Byte) (w : Bool) (payload : List Byte)
    (b : Branch) (p : BranchPort) (s : State) :
    endTransaction t o st w payload (s.setPort b p) = (endTransaction t o st w payload s).setPort b p := by
  unfold endTransaction statusUpdate
  rw [setPort_tag]
  split <;> rfl

theorem endUnit_setPort (t : Tag) (c : EndCause) (st : Option Byte) (b : Branch) (p : BranchPort) (s : State) :
    endUnit t c st (s.setPort b p) = (endUnit t c st s).setPort b p := by
  have hrelease : ∀ r : TagRecord, releaseSlot (s.tag t).slot ((s.setPort b p).setTag t r) =
      (releaseSlot (s.tag t).slot (s.setTag t r)).setPort b p := fun r => releaseSlot_setPort _ b p (s.setTag t r)
  have hwatch : watchOf (s.setPort b p) (s.tag t).slot = watchOf s (s.tag t).slot := rfl
  simp only [endUnit, setPort_tag, hrelease, hwatch, recordEndFault_setPort, endTransaction_setPort]
  rfl

theorem decideBroadcast_setPort (t : Tag) (b : Branch) (p : BranchPort) (s : State) :
    decideBroadcast t (s.setPort b p) = (decideBroadcast t s).setPort b p := by
  simp only [decideBroadcast, endPlain, setPort_tag, endTransaction_setPort, apply_ite (State.setPort · b p)]

theorem endMember_setPort (t : Tag) (d : Branch) (ok : Bool) (b : Branch) (p : BranchPort) (s : State) :
    endMember t d ok (s.setPort b p) = (endMember t d ok s).setPort b p :=
  decideBroadcast_setPort t b p (setMember t d _ s)

theorem reportEnd_setPort (d : Branch) (x : Exchange) (c : EndCause) (ok : Bool) (st : Option Byte) (b : Branch)
    (p : BranchPort) (s : State) :
    reportEnd d x c ok st (s.setPort b p) = (reportEnd d x c ok st s).setPort b p := by
  unfold reportEnd
  split
  · exact endUnit_setPort ..
  · exact endMember_setPort ..
  · exact releaseSlot_setPort ..

/-- The end of an exchange may be read with the port IDLE before the end is reported (R77). -/
theorem endExchange_eq (b : Branch) (x : Exchange) (c : EndCause) (ok : Bool) (st : Option Byte) (s : State) :
    endExchange b x c ok st s = reportEnd b x c ok st (s.setPort b (s.port b).ended) := by
  have hport : (reportEnd b x c ok st s).port b = s.port b := by simp [State.port]
  rw [reportEnd_setPort, endExchange, hport]

/-! ## Tags that a port has given up -/

theorem moves_endUnit {s : State} {t : Tag} (h : s.ledger.Loose t) (c : EndCause) (st : Option Byte) :
    s.ledger.Moves t (endUnit t c st s).ledger := by
  refine moves_of_setTag (r := { s.tag t with slot := none }) ?_
  have hledger : ∀ o, (recordEndFault t o (releaseSlot (s.tag t).slot (s.setTag t { s.tag t with slot := none }))).ledger =
      (s.setTag t { s.tag t with slot := none }).ledger := fun o => by simp
  have hmoves := fun o w p => moves_endTransaction (hledger o ▸ loose_setTag h { s.tag t with slot := none }) o st w p
  simp only [hledger] at hmoves
  exact hmoves _ _ _

/-- A unit transaction that its port has given up is loose. -/
theorem loose_of_port {s : State} {t : Tag} (h : s.ledger.Agrees) {b : Branch} {active : Bool}
    (hfit : (Role.atPort b .unit active).fits (s.tag t)) (hb : ∀ c ∈ s.ledger.claims (.port b), c.tag ≠ t) :
    s.ledger.Loose t := by
  refine loose_of_admits h fun p hp => ?_
  have hstate : (s.tag t).state = .active ∨ (s.tag t).state = .queued := by
    have := hfit.1; cases active <;> simp_all
  cases p with
  | port d =>
    have hd : (s.tag t).facts.map (·.branch) = some d := by
      rcases hp with hp | hp
      · exact hp.2
      · rcases hstate with hs | hs <;> simp [hs] at hp
    rw [hfit.2] at hd
    exact Option.some.inj hd ▸ hb
  | _ => rcases hstate with hs | hs <;> simp [Place.admits, hs] at hp

/-- A member of a broadcast ends whose port has given it up; the other members stay pending (R16). -/
theorem moves_endMember {s : State} {t : Tag} (h : s.ledger.Agrees) {b : Branch} (hstate : (s.tag t).state = .bcast)
    (hb : ∀ c ∈ s.ledger.claims (.port b), c.tag ≠ t) (ok : Bool) : s.ledger.Moves t (endMember t b ok s).ledger := by
  have hset : ∀ x, (setMember t b x s).ledger.Agrees := fun x => by
    rw [setMember, ledger_setTag]
    refine h.mono (fun _ => le_rfl) fun p c hc hfit => ?_
    by_cases hct : c.tag = t
    · rw [hct, Ledger.setRecord_record_self]
      rw [hct] at hfit
      have hp : p.admits (s.tag t) := hct ▸ admits_of_mem h hc
      cases p with
      | port d =>
        have hdb : b.val ≠ d.val := fun heq => hb c (Fin.ext heq ▸ hc) hct
        rcases role_of_mem_port hc with ⟨kind, active, hrole⟩ | hrole
        · rw [hrole] at hfit ⊢
          cases kind with
          | unit => cases active <;> simp [Role.fits, hstate] at hfit
          | member => simpa [Role.fits, Vector.getElem_set_ne _ _ hdb] using hfit
        · rw [hrole] at hfit; exact hfit.elim
      | _ => simp [Place.admits, hstate] at hp
    · rwa [Ledger.setRecord_record_ne _ _ hct]
  refine moves_of_setTag (moves_decideBroadcast (hset _) ?_)
  simp [hstate]

/-- A queue entry that its port has given up ends (R70, R78). -/
theorem moves_dropEntry {s : State} (h : s.ledger.Agrees) {b : Branch} {e : QueueEntry}
    (hfit : (Role.atPort b e.kind false).fits (s.tag e.tag)) (hb : ∀ c ∈ s.ledger.claims (.port b), c.tag ≠ e.tag) :
    s.ledger.Moves e.tag (dropEntry b e s).ledger := by
  unfold dropEntry
  cases hk : e.kind with
  | unit => exact moves_endUnit (loose_of_port h (hk ▸ hfit) hb) _ _
  | member =>
    rw [hk] at hfit
    exact moves_endMember h hfit.1 hb false

/-- The entries that a port has given up end one after another. -/
theorem agrees_foldl_dropEntry (b : Branch) : ∀ (es : List QueueEntry) (s : State), (es.map (·.tag)).Nodup →
    s.ledger.Agrees → (∀ e ∈ es, (Role.atPort b e.kind false).fits (s.tag e.tag)) →
    (∀ e ∈ es, ∀ c ∈ s.ledger.claims (.port b), c.tag ≠ e.tag) →
    (es.foldl (fun s e => dropEntry b e s) s).ledger.Agrees
  | [], _, _, h, _, _ => h
  | e :: es, s, hes, h, hfits, hb => by
    obtain ⟨hnot, hnodup⟩ := List.nodup_cons.1 hes
    have hmoves := moves_dropEntry h (hfits e List.mem_cons_self) (hb e List.mem_cons_self)
    have hne : ∀ d ∈ es, d.tag ≠ e.tag := fun d hd heq => hnot (List.mem_map.2 ⟨d, hd, heq⟩)
    refine agrees_foldl_dropEntry b es (dropEntry b e s) hnodup hmoves.agrees (fun d hd => ?_) fun d hd c hc hcd => ?_
    · have hrecord : (dropEntry b e s).tag d.tag = s.tag d.tag := hmoves.record d.tag (hne d hd)
      rw [hrecord]
      exact hfits d (List.mem_cons_of_mem _ hd)
    · exact hb d (List.mem_cons_of_mem _ hd) c (hmoves.claims _ c hc (hcd ▸ hne d hd)) hcd

/-- The queue entries of a port are removed and end (R70, R78). -/
theorem agrees_dropQueue {s : State} (h : s.ledger.Agrees) (b : Branch) : (dropQueue b s).ledger.Agrees := by
  have hport := h (.port b)
  rw [Ledger.AgreesAt, ledger_claims_port, BranchPort.claims, Multiset.map_add, Multiset.nodup_add] at hport
  obtain ⟨⟨hqueue, -, hdisjoint⟩, hfits⟩ := hport
  have hledger : (s.setPort b { s.port b with queue := [] }).ledger =
      s.ledger.setClaims (.port b) ((s.port b).exchange.claims b) := by
    simp [BranchPort.claims, queueClaims]
  have hmem : ∀ e ∈ (s.port b).queue, Claim.mk e.tag (.atPort b e.kind false) ∈ queueClaims (s.port b).queue b :=
    fun e he => Multiset.mem_coe.2 (List.mem_map_of_mem (f := fun e : QueueEntry => Claim.mk e.tag (.atPort b e.kind false)) he)
  unfold dropQueue
  refine agrees_foldl_dropEntry b _ _ ?_ ?_ (fun e he => ?_) fun e he c hc hce => ?_
  · simpa [queueClaims, Function.comp_def] using hqueue
  · rw [hledger]
    exact h.drop (by rw [ledger_claims_port, BranchPort.claims]; exact Multiset.le_add_left _ _)
  · exact hfits _ (Multiset.mem_add.2 (.inl (hmem e he)))
  · rw [hledger, Ledger.setClaims_claims_self] at hc
    exact Multiset.disjoint_left.1 hdisjoint (Multiset.mem_map_of_mem Claim.tag (hmem e he))
      (Multiset.mem_map.2 ⟨c, hc, hce⟩)

/-! ## The ends of exchanges (R77) -/

/-- Ports with the same queue and exchanges that hold the same tag have the same claims. -/
theorem portClaims_congr {p q : BranchPort} {b : Branch} (hqueue : p.queue = q.queue)
    (hexchange : p.exchange.claims b = q.exchange.claims b) : p.claims b = q.claims b := by
  rw [BranchPort.claims, BranchPort.claims, hqueue, hexchange]

/-- A port that changes in neither its queue nor the tag of its exchange. -/
theorem ledger_setPort_of_claims {s : State} {b : Branch} {p : BranchPort} (h : p.claims b = (s.port b).claims b) :
    (s.setPort b p).ledger = s.ledger := by
  rw [ledger_setPort]
  exact Ledger.setClaims_of_eq _ h

theorem exchangeClaims_of_current {e : ExchangeState} {x : Exchange} (b : Branch) (h : e.current = some x) :
    e.claims b = x.claims b := by
  simp [ExchangeState.claims, h]

/-- The current exchange of a port ends (R77). -/
theorem agrees_endExchange {s : State} (h : s.ledger.Agrees) {b : Branch} {x : Exchange}
    (hx : (s.port b).exchange.current = some x) (c : EndCause) (ok : Bool) (st : Option Byte) :
    (endExchange b x c ok st s).ledger.Agrees := by
  rw [endExchange_eq]
  have hport := h (.port b)
  rw [Ledger.AgreesAt, ledger_claims_port, BranchPort.claims, exchangeClaims_of_current b hx, Multiset.map_add,
    Multiset.nodup_add] at hport
  obtain ⟨⟨-, -, hdisjoint⟩, hfits⟩ := hport
  have hledger : (s.setPort b (s.port b).ended).ledger =
      s.ledger.setClaims (.port b) (queueClaims (s.port b).queue b) := by
    simp [BranchPort.claims, BranchPort.ended, ExchangeState.claims, ExchangeState.current]
  have hidle : (s.setPort b (s.port b).ended).ledger.Agrees := by
    rw [hledger]
    exact h.drop (by rw [ledger_claims_port, BranchPort.claims]; exact Multiset.le_add_right _ _)
  have hgone : ∀ t, x.orphan = false → x.tag = some t →
      (Role.atPort b x.kind true).fits (s.tag t) ∧
        ∀ c ∈ (s.setPort b (s.port b).ended).ledger.claims (.port b), c.tag ≠ t := fun t ho ht => by
    have hmem : Claim.mk t (.atPort b x.kind true) ∈ x.claims b := by simp [Exchange.claims, ho, ht]
    refine ⟨hfits _ (Multiset.mem_add.2 (.inr hmem)), fun c hc hct => ?_⟩
    rw [hledger, Ledger.setClaims_claims_self] at hc
    exact Multiset.disjoint_left.1 hdisjoint (Multiset.mem_map_of_mem Claim.tag hc)
      (hct ▸ Multiset.mem_map_of_mem Claim.tag hmem)
  unfold reportEnd
  split
  case h_1 t ho ht hk =>
    obtain ⟨hfit, hb⟩ := hgone t ho ht
    exact (moves_endUnit (loose_of_port hidle (hk ▸ hfit) hb) c st).agrees
  case h_2 t ho ht hk =>
    obtain ⟨hfit, hb⟩ := hgone t ho ht
    rw [hk] at hfit
    exact (moves_endMember hidle hfit.1 hb ok).agrees
  case h_3 => rwa [ledger_releaseSlot]

/-- An exchange that begins an attempt holds its tag as before (R75). -/
theorem ledger_beginAttempt (b : Branch) (x : Exchange) (s : State) :
    (beginAttempt b x s).ledger =
      s.ledger.setClaims (.port b) (queueClaims (s.port b).queue b + x.claims b) := by
  simp only [beginAttempt, ledger_count, ledger_setPort]
  rfl

/-- An attempt that fails ends its exchange or is retried (R76). -/
theorem agrees_failAttempt {s : State} (h : s.ledger.Agrees) {b : Branch} {x : Exchange}
    (hx : (s.port b).exchange.current = some x) (c : EndCause) : (failAttempt b x c s).ledger.Agrees := by
  unfold failAttempt
  split
  · exact agrees_endExchange h hx _ _ _
  · split
    · exact agrees_endExchange h hx _ _ _
    · split
      · exact agrees_endExchange h hx _ _ _
      · rw [ledger_beginAttempt, ledger_count, Ledger.setClaims_of_eq]
        · exact h
        · rw [ledger_claims_port, BranchPort.claims, exchangeClaims_of_current b hx, count_port]

/-- A port shuts down (R78). -/
theorem agrees_shutDown {s : State} (h : s.ledger.Agrees) (b : Branch) (detail : Byte) :
    (shutDown b detail s).ledger.Agrees := by
  have hstate : (s.setPort b { s.port b with state := .shutDown }).ledger.Agrees := by
    rwa [ledger_setPort_of_claims]
    exact portClaims_congr rfl rfl
  unfold shutDown
  dsimp only
  rw [ledger_latchPortShut, ledger_recordFault]
  apply agrees_dropQueue
  split
  case h_1 x hx => exact agrees_endExchange hstate hx _ _ _
  case h_2 => exact hstate

/-! ## The taking of the head (R72) -/

/-- The exchange formed from an entry holds the entry's tag (R73). -/
theorem claims_formExchange {e : QueueEntry} {r : TagRecord} {x : Exchange} (h : formExchange e r = some x) (b : Branch) :
    x.claims b = {⟨e.tag, .atPort b e.kind true⟩} := by
  unfold formExchange at h
  split at h
  case h_1 hk =>
    obtain ⟨f, -, rfl⟩ := Option.map_eq_some_iff.1 h
    simp [Exchange.claims, hk]
  case h_2 hk =>
    obtain rfl := Option.some.inj h
    simp [Exchange.claims, hk]

/-- A place that holds a tag goes on holding it and asks something else that its record meets. -/
theorem Ledger.Agrees.replace {L : Ledger} (h : L.Agrees) {p : Place} {t : Tag} {role role' : Role} {m : Multiset Claim}
    (hp : L.claims p = ⟨t, role⟩ ::ₘ m) (hfit : role'.fits (L.record t)) : (L.setClaims p (⟨t, role'⟩ ::ₘ m)).Agrees := by
  intro q
  by_cases hq : q = p
  · subst hq
    obtain ⟨hnodup, hfits⟩ := h q
    rw [hp] at hnodup hfits
    rw [AgreesAt, setClaims_claims_self]
    refine ⟨by simpa using hnodup, fun c hc => ?_⟩
    rcases Multiset.mem_cons.1 hc with rfl | hc
    · exact hfit
    · exact hfits c (Multiset.mem_cons_of_mem hc)
  · rw [AgreesAt, setClaims_claims_ne _ _ hq]
    exact h q

/-- The head entry of an idle port becomes its exchange (R72). -/
theorem agrees_takeEntry {s : State} (h : s.ledger.Agrees) {b : Branch} {e : QueueEntry} {rest : List QueueEntry}
    (hidle : (s.port b).exchange = .idle) (hqueue : (s.port b).queue = e :: rest) :
    (takeEntry b e rest s).ledger.Agrees := by
  have hport : s.ledger.claims (.port b) = ⟨e.tag, .atPort b e.kind false⟩ ::ₘ queueClaims rest b := by
    rw [ledger_claims_port, BranchPort.claims, hqueue, hidle]
    simp [ExchangeState.claims, ExchangeState.current, queueClaims]
  obtain ⟨hnodup, hfits⟩ := h (.port b)
  rw [hport] at hnodup hfits
  have hfit : (Role.atPort b e.kind false).fits (s.tag e.tag) := hfits _ (Multiset.mem_cons_self _ _)
  unfold takeEntry
  split
  case h_1 => exact h
  case h_2 x hx =>
    have hledger : ∀ r, (beginAttempt b x ((s.setTag e.tag r).setPort b { s.port b with queue := rest })).ledger =
        (s.ledger.setRecord e.tag r).setClaims (.port b) (⟨e.tag, .atPort b e.kind true⟩ ::ₘ queueClaims rest b) := by
      intro r
      rw [ledger_beginAttempt, claims_formExchange hx]
      rw [Multiset.add_comm, Multiset.singleton_add]
      simp [Ledger.setClaims]
    rw [hledger]
    cases hk : e.kind with
    | unit =>
      have hrest : (s.setPort b { s.port b with queue := rest }).ledger =
          s.ledger.setClaims (.port b) (queueClaims rest b) := by
        simp [BranchPort.claims, hidle, ExchangeState.claims, ExchangeState.current]
      have hloose : (s.setPort b { s.port b with queue := rest }).ledger.Loose e.tag := by
        refine loose_of_port (b := b) (active := false) ?_ (hk ▸ hfit) fun c hc hct => ?_
        · rw [hrest]
          exact h.drop (by rw [hport]; exact Multiset.le_cons_self _ _)
        · rw [hrest, Ledger.setClaims_claims_self] at hc
          rw [Multiset.map_cons, Multiset.nodup_cons] at hnodup
          exact hnodup.1 (Multiset.mem_map.2 ⟨c, hc, hct⟩)
      rw [hrest] at hloose
      rw [hk] at hfit
      have hgain := (hloose.setRecord ((s.tag e.tag).taken .unit)).gain (p := .port b)
        (role := .atPort b .unit true) le_rfl (by simpa [TagRecord.taken, Role.fits] using hfit.2)
      simpa [Ledger.setClaims, Ledger.setRecord] using hgain.agrees
    | member =>
      rw [hk] at hport hfit
      have hrecord : (s.tag e.tag).taken .member = s.tag e.tag := rfl
      rw [hrecord, ← ledger_record, Ledger.setRecord_self]
      exact h.replace hport hfit

end Sys2Proof.Machine
end

section
/-!
The rest of the ports' events, and the management commands: each command answers the request at the head of the Management Queue, which gives up its tag (R165).
-/

namespace Sys2Proof.Machine

/-! ## Events of a port (R79 to R87) -/

theorem agrees_goodEcho {s : State} (h : s.ledger.Agrees) {b : Branch} {x : Exchange}
    (hx : (s.port b).exchange = .sending x) : (goodEcho b x s).ledger.Agrees := by
  have hcleared : (s.setPort b { s.port b with watchdog := none, echoFaults := 0 }).ledger.Agrees := by
    rwa [ledger_setPort_of_claims]
    exact portClaims_congr rfl rfl
  unfold goodEcho
  dsimp only
  split
  · exact agrees_endExchange hcleared (by simp [hx, ExchangeState.current]) _ _ _
  · rwa [ledger_setPort_of_claims]
    exact portClaims_congr rfl (by simp [hx, ExchangeState.claims, ExchangeState.current])

theorem agrees_faultyEcho {s : State} (h : s.ledger.Agrees) {b : Branch} {x : Exchange}
    (hx : (s.port b).exchange = .sending x) : (faultyEcho b x s).ledger.Agrees := by
  have hcounted : (count (.branch b .echoFaults)
      (s.setPort b { s.port b with watchdog := none, echoFaults := (s.port b).echoFaults + 1 })).ledger.Agrees := by
    rwa [ledger_count, ledger_setPort_of_claims]
    exact portClaims_congr rfl rfl
  unfold faultyEcho
  dsimp only
  split
  · exact agrees_shutDown hcounted b _
  · exact agrees_failAttempt hcounted (by simp [hx, ExchangeState.current]) _

theorem agrees_hearReply {s : State} (h : s.ledger.Agrees) {b : Branch} {x : Exchange}
    (hx : (s.port b).exchange = .waiting x) (heard : Heard) : (hearReply b x heard s).ledger.Agrees := by
  have hcurrent : ((stopTimer b s).port b).exchange.current = some x := by simp [stopTimer, hx, ExchangeState.current]
  unfold hearReply
  split
  · exact agrees_endExchange (by simpa using h) (by simpa using hcurrent) _ _ _
  · simpa using h
  · exact agrees_failAttempt (by simpa using h) (by simpa using hcurrent) _

theorem agrees_responseExpired {s : State} (h : s.ledger.Agrees) {b : Branch} {x : Exchange}
    (hx : (s.port b).exchange = .waiting x) : (responseExpired b x s).ledger.Agrees :=
  agrees_failAttempt (by simpa using h) (by simp [stopTimer, hx, ExchangeState.current]) _

/-! ## Replies to management requests (R165) -/

/-- The tag of the entry at the head of the Management Queue, if it has one. -/
def State.headTag (s : State) : Option Tag := s.mu.queue.head?.bind ManagementEntry.tag

/-- The entry may leave the Management Queue before its reply is appended. -/
theorem reply_eq (t : Tag) (result : ResultCode) (data : List Byte) (s : State) :
    reply t result data s = endTransaction t .done none false (result.code :: data) (dropManagementHead s) := by
  unfold reply endTransaction statusUpdate
  rw [dropManagementHead_tag]
  split <;> rfl

theorem ledger_dropManagementHead (s : State) :
    (dropManagementHead s).ledger = s.ledger.setClaims .management (managementClaims s.mu.queue.tail) := by
  simp only [State.ledger, Ledger.setClaims, Ledger.mk.injEq]
  refine ⟨rfl, ?_⟩
  funext p
  cases p <;> rfl

theorem managementClaims_tail_le (q : List ManagementEntry) : managementClaims q.tail ≤ managementClaims q :=
  claimsOf_le ((List.tail_sublist q).filterMap _) _

theorem agrees_dropManagementHead {s : State} (h : s.ledger.Agrees) : (dropManagementHead s).ledger.Agrees := by
  rw [ledger_dropManagementHead]
  exact h.drop (managementClaims_tail_le _)

/-- The request at the head of the Management Queue is answered (R165). -/
theorem agrees_reply {s : State} (h : s.ledger.Agrees) {t : Tag} (ht : s.headTag = some t) (result : ResultCode)
    (data : List Byte) : (reply t result data s).ledger.Agrees := by
  rw [reply_eq]
  refine (moves_endTransaction (loose_of_admits (agrees_dropManagementHead h) fun p hp c hc hct => ?_) _ _ _ _).agrees
  obtain ⟨e, hhead, he⟩ := Option.bind_eq_some_iff.1 ht
  obtain ⟨rest, hqueue⟩ : ∃ rest, s.mu.queue = e :: rest := by
    cases hq : s.mu.queue with
    | nil => simp [hq] at hhead
    | cons d rest => exact ⟨rest, by simpa [hq] using hhead⟩
  obtain ⟨hnodup, hstate⟩ : ManagementHeld s := ((tagsHeld_iff_agrees s).2 h).2.2.2.1
  have hfilter : s.mu.queue.filterMap ManagementEntry.tag = t :: rest.filterMap ManagementEntry.tag := by
    rw [hqueue, List.filterMap_cons, he]
  rw [hfilter] at hnodup hstate
  have hmgmt : (s.tag t).state = .mgmt := hstate t List.mem_cons_self
  cases p with
  | management =>
    rw [ledger_dropManagementHead, Ledger.setClaims_claims_self, hqueue] at hc
    exact (List.nodup_cons.1 hnodup).1 (hct ▸ (mem_claimsOf.1 hc).1)
  | _ => simp [Place.admits, hmgmt] at hp

/-- The state answers the request under a tag, and no tag has changed its place before the answer. -/
def Answers (t : Tag) (s s' : State) : Prop :=
  ∃ (result : ResultCode) (data : List Byte) (u : State),
    u.ledger = s.ledger ∧ u.mu.queue = s.mu.queue ∧ s'.ledger = (reply t result data u).ledger

theorem Answers.agrees {t : Tag} {s s' : State} (ha : Answers t s s') (h : s.ledger.Agrees) (ht : s.headTag = some t) :
    s'.ledger.Agrees := by
  obtain ⟨result, data, u, hledger, hqueue, hs'⟩ := ha
  rw [hs']
  exact agrees_reply (hledger ▸ h) (by rwa [State.headTag, hqueue]) _ _

theorem answers_reply (t : Tag) (result : ResultCode) (data : List Byte) (s : State) :
    Answers t s (reply t result data s) := ⟨result, data, s, rfl, rfl, rfl⟩

/-- A command that changes no holder before it answers. -/
theorem answers_after {t : Tag} {result : ResultCode} {data : List Byte} {s u : State} (hledger : u.ledger = s.ledger)
    (hqueue : u.mu.queue = s.mu.queue) : Answers t s (reply t result data u) :=
  ⟨result, data, u, hledger, hqueue, rfl⟩

theorem Answers.settle {t : Tag} {s s' : State} (h : Answers t s s') : Answers t s (settle s') := by
  obtain ⟨result, data, u, hledger, hqueue, hs'⟩ := h
  exact ⟨result, data, u, hledger, hqueue, (ledger_settle s').trans hs'⟩

/-! ## Events and commands -/

/-- An event that keeps the ledger in agreement, with power and without. -/
theorem agrees_event {s s' body : State} (h : s.ledger.Agrees) (hbody : body.ledger.Agrees)
    (hs' : event s body = .next s') : s'.ledger.Agrees := by
  unfold event at hs'
  obtain rfl := Host.Outcome.next.inj hs'
  split
  · exact hbody
  · exact h

/-- An event that changes no holder. -/
theorem agrees_event_of_eq {s s' body : State} (h : s.ledger.Agrees) (hbody : body.ledger = s.ledger)
    (hs' : event s body = .next s') : s'.ledger.Agrees := agrees_event h (hbody ▸ h) hs'

/-- A command executed from the head of the Management Queue keeps the ledger in agreement when its body does. -/
theorem agrees_execCommand {s s' : State} (h : s.ledger.Agrees) {code : Nat → Bool}
    {body : Tag → List Byte → State → State} (hs' : event s (whenCommand code body s) = .next s')
    (hbody : ∀ t params, s.headTag = some t → (body t params s).ledger.Agrees) : s'.ledger.Agrees := by
  refine agrees_event h ?_ hs'
  unfold whenCommand
  split
  case h_1 t ht =>
    split
    · refine hbody t _ ?_
      unfold managementHead at ht
      split at ht
      case h_1 hq => simpa [State.headTag, hq, ManagementEntry.tag] using ht
      case h_2 => exact absurd ht (by simp)
    · exact h
  case h_2 => exact h

/-- A command that answers keeps the ledger in agreement. -/
theorem agrees_execAnswer {s s' : State} (h : s.ledger.Agrees) {code : Nat → Bool}
    {body : Tag → List Byte → State → State} (hs' : event s (whenCommand code body s) = .next s')
    (hbody : ∀ t params, Answers t s (body t params s)) : s'.ledger.Agrees :=
  agrees_execCommand h hs' fun t params ht => (hbody t params).agrees h ht

/-- A command without parameters that answers keeps the ledger in agreement. -/
theorem agrees_execPlain {s s' : State} (h : s.ledger.Agrees) {code : Nat → Bool} {body : Tag → State → State}
    (hs' : event s (whenCommand code (withoutParameters body) s) = .next s') (hbody : ∀ t, Answers t s (body t s)) :
    s'.ledger.Agrees :=
  agrees_execAnswer h hs' fun t params => by
    unfold withoutParameters
    split
    · exact hbody t
    · exact answers_reply ..

/-! ## The commands that answer at once -/

theorem answers_setConfigCommand (t : Tag) (params : List Byte) (s : State) :
    Answers t s (setConfigCommand t params s) := by
  unfold setConfigCommand
  split
  · exact answers_reply ..
  · exact answers_after rfl rfl

theorem answers_setEventMaskCommand (t : Tag) (params : List Byte) (s : State) :
    Answers t s (setEventMaskCommand t params s) := by
  unfold setEventMaskCommand
  split
  · exact answers_reply ..
  · exact answers_after rfl rfl

theorem answers_faultClearCommand (t : Tag) (params : List Byte) (s : State) :
    Answers t s (faultClearCommand t params s) := by
  unfold faultClearCommand
  split
  · exact answers_reply ..
  · exact answers_after rfl rfl

theorem answers_unitStatusReadCommand (t : Tag) (params : List Byte) (s : State) :
    Answers t s (unitStatusReadCommand t params s) := by
  unfold unitStatusReadCommand
  dsimp only
  split <;> exact answers_reply ..

theorem answers_countersReadCommand (t : Tag) (params : List Byte) (s : State) :
    Answers t s (countersReadCommand t params s) := by
  unfold countersReadCommand
  split <;> exact answers_reply ..

theorem answers_queueInvalidationCommand (t : Tag) (params : List Byte) (s : State) :
    Answers t s (queueInvalidationCommand t params s) := by
  unfold queueInvalidationCommand
  dsimp only
  split
  · exact answers_reply ..
  · split
    · exact answers_reply ..
    · exact answers_after rfl rfl

theorem answers_iqRecoverCommand (t : Tag) (s : State) : Answers t s (iqRecoverCommand t s) := by
  unfold iqRecoverCommand
  split
  · exact answers_after rfl rfl
  · exact answers_reply ..

theorem answers_writeEnableCommand (t : Tag) (s : State) : Answers t s (writeEnableCommand t s) := by
  unfold writeEnableCommand
  split
  · exact answers_reply ..
  · exact answers_after rfl rfl

/-- A program or erase answers; the store settles after the answer. -/
theorem answers_operationCommand (t : Tag) (o : StoreOp) (refuses : Bool) (s : State) :
    Answers t s (operationCommand t o refuses s) := by
  unfold operationCommand
  split
  · exact (answers_after (ledger_startOperation o s) (by simp)).settle
  · exact answers_after rfl rfl
  · exact answers_reply ..

theorem answers_programCommand (t : Tag) (params : List Byte) (s : State) :
    Answers t s (programCommand t params s) := by
  unfold programCommand
  split
  · exact answers_reply ..
  · exact answers_operationCommand ..

theorem answers_eraseCommand (t : Tag) (params : List Byte) (s : State) : Answers t s (eraseCommand t params s) := by
  unfold eraseCommand
  split
  · exact answers_reply ..
  · exact answers_operationCommand ..

theorem answers_resumeCommand (t : Tag) (s : State) : Answers t s (resumeCommand t s) := by
  unfold resumeCommand
  split
  · exact (answers_after (ledger_resume s) (by simp)).settle
  · exact answers_reply ..

theorem answers_protectCommand (t : Tag) (params : List Byte) (s : State) :
    Answers t s (protectCommand t params s) := by
  unfold protectCommand
  split
  · exact answers_reply ..
  · split
    · exact answers_reply ..
    · split
      · exact answers_reply ..
      · exact answers_after rfl rfl

theorem answers_cacheReadCommand (t : Tag) (params : List Byte) (s : State) :
    Answers t s (cacheReadCommand t params s) := by
  unfold cacheReadCommand
  split <;> exact answers_reply ..

theorem answers_startActivation (t : Tag) (s : State) : Answers t s (startActivation t s) := by
  unfold startActivation
  split
  · exact answers_reply ..
  · refine Answers.settle ?_
    exact answers_after rfl rfl

/-- The row of another mode does nothing; the row of the command's mode answers (R64). -/
theorem agrees_execActivatePolicy {s s' : State} (h : s.ledger.Agrees) {code : Nat → Bool} {mode : ActivationMode}
    {body : Tag → State → State} (hs' : event s (whenCommand code (activatePolicy mode body) s) = .next s')
    (hbody : ∀ t, Answers t s (body t s)) : s'.ledger.Agrees :=
  agrees_execCommand h hs' fun t params ht => by
    unfold activatePolicy
    split
    · split
      · exact (hbody t).agrees h ht
      · exact h
    · exact agrees_reply h ht _ _

/-! ## STORE-READ (R141) -/

/-- A STORE-READ that waits for the read port stays at the head of the queue, in execution (R164). -/
theorem ledger_markExecuting {s : State} {t : Tag} (ht : s.headTag = some t) : (markExecuting t s).ledger = s.ledger := by
  have hqueue : managementClaims (.executing (some t) :: s.mu.queue.tail) = managementClaims s.mu.queue := by
    unfold State.headTag at ht
    cases hq : s.mu.queue with
    | nil => simp [hq] at ht
    | cons e rest =>
      simp only [hq, List.head?_cons, Option.bind_some] at ht
      have hrest : ManagementEntry.tag (.executing (some t)) = e.tag := ht.symm
      simp only [managementClaims, List.tail_cons, List.filterMap_cons, hrest]
  simp only [State.ledger, Ledger.mk.injEq]
  refine ⟨rfl, ?_⟩
  funext p
  cases p with
  | management => exact hqueue
  | _ => rfl

theorem agrees_storeReadCommand {s : State} (h : s.ledger.Agrees) {t : Tag} (ht : s.headTag = some t)
    (params : List Byte) : (storeReadCommand t params s).ledger.Agrees := by
  unfold storeReadCommand
  dsimp only
  split
  · exact agrees_reply h ht _ _
  · split
    · exact agrees_reply h ht _ _
    · split
      · exact agrees_reply h ht _ _
      · rw [ledger_settle, ledger_markExecuting (by exact ht)]
        exact h

/-- A STORE-READ that has its bytes is answered, or leaves the queue without a tag (R141, R167). -/
theorem agrees_finishStoreRead {s : State} (h : s.ledger.Agrees) (bytes : List Byte) :
    (finishStoreRead bytes s).ledger.Agrees := by
  unfold finishStoreRead
  split
  case h_1 hq => exact agrees_reply h (by simp [State.headTag, hq, ManagementEntry.tag]) _ _
  case h_2 => exact agrees_dropManagementHead h
  case h_3 => exact h

/-! ## PORT-CONTROL (R68 to R70) -/

/-- The row of another action does nothing; the row of the command's action executes it (R68). -/
theorem agrees_execPortControl {s s' : State} (h : s.ledger.Agrees) {code : Nat → Bool} {action : PortAction}
    {body : Tag → Branch → State → State} (hs' : event s (whenCommand code (portControl action body) s) = .next s')
    (hbody : ∀ t b, s.headTag = some t → (body t b s).ledger.Agrees) : s'.ledger.Agrees :=
  agrees_execCommand h hs' fun t params ht => by
    unfold portControl
    split
    · split
      · exact hbody t _ ht
      · exact h
    · exact agrees_reply h ht _ _

theorem answers_enableCommand (t : Tag) (b : Branch) (s : State) : Answers t s (enableCommand t b s) := by
  unfold enableCommand
  split
  · exact answers_reply ..
  · exact answers_reply ..
  · exact answers_after (ledger_setPort_of_claims (portClaims_congr rfl rfl)) rfl

/-- PORT-CONTROL DISABLE changes neither the queue nor the tag of the exchange (R70). -/
theorem claims_disable (p : BranchPort) (b : Branch) : p.disable.claims b = p.claims b := by
  have hlast : p.exchange.lastAttempt.claims b = p.exchange.claims b := by
    cases p.exchange <;> simp [ExchangeState.lastAttempt, ExchangeState.claims, ExchangeState.current, Exchange.claims]
  unfold BranchPort.disable
  split
  · split
    · exact portClaims_congr rfl rfl
    · exact portClaims_congr rfl hlast
  · exact portClaims_congr rfl rfl
  · rfl

theorem agrees_disableCommand {s : State} (h : s.ledger.Agrees) {t : Tag} (b : Branch) (ht : s.headTag = some t) :
    (disableCommand t b s).ledger.Agrees := by
  have hdisabled : (s.setPort b (s.port b).disable).ledger.Agrees := by
    rwa [ledger_setPort_of_claims (claims_disable _ _)]
  unfold disableCommand
  dsimp only
  split
  · exact agrees_reply (agrees_dropQueue hdisabled b) (by simpa [State.headTag] using ht) _ _
  · exact agrees_reply hdisabled ht _ _

/-! ## CANCEL (R18) -/

theorem claims_withoutWaiter (c : CacheSlot) (t : Tag) :
    (c.withoutWaiter t).claims = claimsOf (c.waiters.filter (· ≠ t)) (.waiting c.unit) := by
  cases c <;> rfl

theorem slot_leaveWaiters (t : Tag) (s : State) (i : SlotNo) :
    (leaveWaiters t s).slot i = (s.slot i).withoutWaiter t := by
  simp [State.slot, leaveWaiters]

theorem tag_leaveWaiters (t v : Tag) (s : State) : (leaveWaiters t s).tag v = s.tag v := by
  simp [State.tag]

/-- Places other than the slots keep their claims when a transaction leaves the waiters. -/
theorem claims_leaveWaiters (t : Tag) (s : State) {p : Place} (hp : ∀ i, p ≠ .waiters i) :
    (leaveWaiters t s).ledger.claims p = s.ledger.claims p := by
  cases p with
  | waiters i => exact absurd rfl (hp i)
  | _ => simp [State.ledger, State.port]

/-- The tag of a LOOKUP transaction is loose once it has left the waiters (R18). -/
theorem loose_leaveWaiters {s : State} (h : s.ledger.Agrees) {t : Tag} (ht : (s.tag t).state = .lookup) :
    (leaveWaiters t s).ledger.Loose t := by
  have hwaiters : ∀ i, (leaveWaiters t s).ledger.claims (.waiters i) =
      claimsOf ((s.slot i).waiters.filter (· ≠ t)) (.waiting (s.slot i).unit) := fun i => by
    rw [ledger_claims_waiters, slot_leaveWaiters, claims_withoutWaiter]
  have hagrees : (leaveWaiters t s).ledger.Agrees := by
    refine h.mono (fun p => ?_) fun p c hc hfit => ?_
    · cases p with
      | waiters i =>
        rw [hwaiters]
        exact claimsOf_le List.filter_sublist _
      | _ => rw [claims_leaveWaiters t s (by simp)]
    · rwa [ledger_record, tag_leaveWaiters]
  have htag : ((leaveWaiters t s).tag t).state = .lookup := by rw [tag_leaveWaiters, ht]
  refine loose_of_admits hagrees fun p hp c hc hct => ?_
  cases p with
  | waiters i =>
    rw [hwaiters] at hc
    have hmem := (mem_claimsOf.1 hc).1
    simp [hct] at hmem
  | _ => simp [Place.admits, htag] at hp

/-- The tag of a HELD transaction is loose once it has left the held list (R18). -/
theorem loose_leaveHeld {s : State} (h : s.ledger.Agrees) {t : Tag} (ht : (s.tag t).state = .held) :
    (leaveHeld t s).ledger.Loose t := by
  refine loose_of_admits (h.mono (fun p => ?_) fun _ _ _ => id) fun p hp c hc hct => ?_
  · cases p with
    | held => exact claimsOf_le List.filter_sublist _
    | _ => exact le_rfl
  · have htag : ((leaveHeld t s).tag t).state = .held := ht
    cases p with
    | held =>
      have hmem : c.tag ∈ s.pu.held.filter (· ≠ t) := (mem_claimsOf.1 hc).1
      simp [hct] at hmem
    | _ => simp [Place.admits, htag] at hp

/-- The tag of a QUEUED transaction is loose once its entry has left the Branch Queue (R18). -/
theorem loose_leaveQueue {s : State} (h : s.ledger.Agrees) {t : Tag} (ht : (s.tag t).state = .queued) :
    (leaveQueue t s).ledger.Loose t := by
  unfold leaveQueue
  split
  case h_1 f hf =>
    generalize hkept : (s.port f.branch).queue.filter (· ≠ { tag := t, kind := .unit }) = kept
    have hledger : (s.setPort f.branch { s.port f.branch with queue := kept }).ledger =
        s.ledger.setClaims (.port f.branch)
          (queueClaims kept f.branch + (s.port f.branch).exchange.claims f.branch) := ledger_setPort ..
    have hle : queueClaims kept f.branch + (s.port f.branch).exchange.claims f.branch ≤
        s.ledger.claims (.port f.branch) := by
      rw [ledger_claims_port, BranchPort.claims, ← hkept]
      exact Multiset.add_le_add_right (Multiset.coe_le.2 (List.filter_sublist.map _).subperm)
    refine loose_of_admits (by rw [hledger]; exact h.drop hle) fun p hp c hc hct => ?_
    rw [setPort_tag] at hp
    cases p with
    | port d =>
      obtain rfl : d = f.branch := by simpa [Place.admits, ht, hf, eq_comm] using hp
      rw [hledger, Ledger.setClaims_claims_self] at hc
      have hfit : c.role.fits (s.tag t) := hct ▸ (h (.port f.branch)).2 c (Multiset.mem_of_le hle hc)
      rcases Multiset.mem_add.1 hc with hc | hc
      · obtain ⟨e, he, rfl⟩ := List.mem_map.1 (Multiset.mem_coe.1 hc)
        rw [← hkept, List.mem_filter] at he
        obtain ⟨tag, kind⟩ := e
        obtain rfl : tag = t := hct
        cases kind with
        | unit => simp at he
        | member => simp [Role.fits, ht] at hfit
      · rcases role_of_mem_exchange hc with ⟨kind, hrole⟩ | hrole
        · rw [hrole] at hfit
          cases kind <;> simp [Role.fits, ht] at hfit
        · rw [hrole] at hfit; exact hfit
    | _ => simp [Place.admits, ht] at hp
  case h_2 hf => exact loose_of_admits h fun p hp => by cases p <;> simp [Place.admits, ht, hf] at hp

/-- The effect of CANCEL keeps the ledger in agreement (R18). -/
theorem agrees_cancelTransaction {s : State} (h : s.ledger.Agrees) (t : Tag) :
    (cancelTransaction t s).2.ledger.Agrees := by
  unfold cancelTransaction
  split
  case h_1 ht => exact (moves_endPlain (loose_leaveWaiters h ht) _).agrees
  case h_2 ht => exact (moves_endPlain (loose_leaveHeld h ht) _).agrees
  case h_3 ht =>
    have hloose : (dropReference t (leaveQueue t s)).ledger.Loose t := by
      rw [dropReference, ledger_releaseSlot]
      exact loose_setTag (loose_leaveQueue h ht) _
    exact (moves_endPlain hloose _).agrees
  case h_4 ht =>
    rw [ledger_setTag]
    exact h.setRecord fun role hfit => by cases role <;> exact hfit
  case h_5 => exact h

theorem mu_cancelTransaction (t : Tag) (s : State) : (cancelTransaction t s).2.mu = s.mu := by
  unfold cancelTransaction
  split <;> simp

theorem agrees_cancelCommand {s : State} (h : s.ledger.Agrees) {t : Tag} (ht : s.headTag = some t)
    (params : List Byte) : (cancelCommand t params s).ledger.Agrees := by
  unfold cancelCommand
  split
  · exact agrees_reply h ht _ _
  · exact agrees_reply (agrees_cancelTransaction h _) (by rwa [State.headTag, mu_cancelTransaction]) _ _

end Sys2Proof.Machine
end

section
/-!
Trunk breaks, resets and the passing of time; every step keeps every holder of a tag in agreement with its record.
-/

namespace Sys2Proof.Machine

/-! ## States in which no place holds a tag -/

/-- A ledger without claims agrees. -/
theorem agrees_of_no_claims {L : Ledger} (h : ∀ p, L.claims p = 0) : L.Agrees := fun p => by
  simp [Ledger.AgreesAt, h p]

/-- A state whose queues, slots and ports are empty has a ledger without claims. -/
theorem no_claims {s : State} (hreplies : s.tp.replies = []) (hheld : s.pu.held = [])
    (hslots : ∀ i, (s.slot i).claims = 0) (hmanagement : s.mu.queue.filterMap ManagementEntry.tag = [])
    (hports : ∀ b, (s.port b).claims b = 0) : ∀ p, s.ledger.claims p = 0 := by
  intro p
  cases p with
  | replies => rw [ledger_claims_replies, hreplies]; rfl
  | held => rw [ledger_claims_held, hheld]; rfl
  | waiters i => exact hslots i
  | management => rw [ledger_claims_management, managementClaims, hmanagement]; rfl
  | port b => exact hports b

/-- A port at its reset values holds no tag (R92). -/
theorem claims_portReset (b : Branch) : BranchPort.reset.claims b = 0 := rfl

theorem agrees_reset : State.reset.ledger.Agrees :=
  agrees_of_no_claims (no_claims rfl rfl (fun i => by simp [State.slot, State.reset, RouteCache.reset]) rfl
    fun b => by simp [State.port, State.reset, claims_portReset])

/-- The bridge with power holds no tag right after power-on (R173). -/
theorem agrees_powerOnState (pending : List Instr) (losses : Nat) (contents : List Host.Cell) :
    (powerOnState pending losses contents).ledger.Agrees := agrees_reset

/-- The bridge without power holds no tag (log 5). -/
theorem agrees_powerOffState (pending : List Instr) (losses : Nat) (contents : List Host.Cell) :
    (powerOffState pending losses contents).ledger.Agrees := agrees_reset

/-- A soft reset leaves no tag held (R161). -/
theorem agrees_softReset (s : State) : (softReset s).ledger.Agrees := by
  unfold softReset
  rw [ledger_settle]
  exact agrees_of_no_claims (no_claims rfl rfl (fun i => by simp [State.slot, RouteCache.reset]) rfl
    fun b => by simp [State.port, claims_portReset])

/-! ## The trunk line (R161, R162) -/

/-- The response that has been sent leaves the Reply Queue, and its record becomes FREE (R161). -/
theorem agrees_finishResponse {s : State} (h : s.ledger.Agrees) {r : Response} {rest : List Response}
    (hr : s.tp.replies = r :: rest) : (finishResponse r s).ledger.Agrees := by
  have hledger : (finishResponse r s).ledger =
      (s.ledger.setClaims .replies (claimsOf (rest.map (·.tag)) .replying)).setRecord r.tag TagRecord.blank := by
    have hset : (finishResponse r s).ledger =
        (s.setTag r.tag TagRecord.blank).ledger.setClaims .replies (claimsOf (rest.map (·.tag)) .replying) := by
      simp only [State.ledger, Ledger.setClaims, Ledger.mk.injEq]
      refine ⟨rfl, ?_⟩
      funext p
      cases p with
      | replies => simp [finishResponse, hr]
      | _ => rfl
    rw [hset, ledger_setTag]; rfl
  obtain ⟨hnodup, hstates⟩ : RepliesHeld s := ((tagsHeld_iff_agrees s).2 h).1
  rw [hr, List.map_cons, List.nodup_cons] at hnodup
  have hstate : (s.tag r.tag).state = .replying := hstates r (by simp [hr])
  have hle : claimsOf (rest.map (·.tag)) .replying ≤ s.ledger.claims .replies := by
    rw [ledger_claims_replies, hr]
    exact claimsOf_le (List.sublist_cons_self _ _) _
  have hloose : (s.ledger.setClaims .replies (claimsOf (rest.map (·.tag)) .replying)).Loose r.tag := by
    refine ⟨h.drop hle, fun p c hc hct => ?_⟩
    have hp : p.admits (s.tag r.tag) :=
      hct ▸ admits_of_mem h (Multiset.mem_of_le (Ledger.setClaims_claims_le _ hle p) hc)
    cases p with
    | replies =>
      rw [Ledger.setClaims_claims_self] at hc
      exact hnodup.1 (hct ▸ (mem_claimsOf.1 hc).1)
    | _ => simp [Place.admits, hstate] at hp
  rw [hledger]
  exact (hloose.setRecord _).agrees

/-- A FILLING slot that is dropped at a break gives up its waiters (R45). -/
theorem ledger_dropFilling (s : State) (i : SlotNo) :
    (dropFilling s i).ledger = s.ledger.setClaims (.waiters i) 0 := by
  unfold dropFilling
  split
  case h_1 => dsimp only; split <;> simp
  case h_2 hslot =>
    refine (Ledger.setClaims_of_eq _ ?_).symm
    rw [ledger_claims_waiters]
    cases hs : s.slot i with
    | filling u m w => exact absurd hs (hslot u m w)
    | _ => rfl

/-- The slots that have been dropped have no waiters. -/
theorem claims_foldl_dropFilling (i : SlotNo) : ∀ (l : List SlotNo) (s : State),
    (i ∈ l ∨ (s.slot i).claims = 0) → ((l.foldl dropFilling s).slot i).claims = 0
  | [], _, h => h.resolve_left (by simp)
  | j :: l, s, h => by
    refine claims_foldl_dropFilling i l (dropFilling s j) ?_
    have hclaims : ((dropFilling s j).slot i).claims = if i = j then 0 else (s.slot i).claims := by
      rw [← ledger_claims_waiters, ledger_dropFilling, ← ledger_claims_waiters]
      by_cases hij : i = j
      · subst hij; simp
      · rw [Ledger.setClaims_claims_ne _ _ (by simpa using hij), if_neg hij]
    by_cases hij : i = j
    · exact .inr (by rw [hclaims, if_pos hij])
    · rcases h with h | h
      · exact .inl ((List.mem_cons.1 h).resolve_left hij)
      · exact .inr (by rw [hclaims, h, ite_self])

theorem claims_breakCache (s : State) (i : SlotNo) : ((breakCache s).slot i).claims = 0 := by
  unfold breakCache
  exact claims_foldl_dropFilling i _ _ (.inl (List.mem_finRange i))

/-- The Management Queue after a break names no tag (R167). -/
theorem tags_managementBroken (m : ManagementUnit) : m.broken.queue.filterMap ManagementEntry.tag = [] := by
  rw [ManagementUnit.broken, List.filterMap_map]
  exact List.filterMap_eq_nil_iff.2 fun _ _ => rfl

/-- A port after a break holds no tag (R71, R89). -/
theorem claims_portBroken (p : BranchPort) (b : Branch) : p.broken.claims b = 0 := by
  unfold BranchPort.broken
  cases p.exchange <;>
    simp [BranchPort.claims, queueClaims, ExchangeState.claims, ExchangeState.current, Exchange.claims, Exchange.orphaned]

theorem rc_breakEffects (s : State) :
    (breakEffects s).rc = (breakCache (count (.trunk .breaks) { s with tp := s.tp.broken })).rc := by
  simp only [breakEffects, freeTags]

/-- A trunk break leaves no tag held (R22, R162). -/
theorem agrees_breakEffects (s : State) : (breakEffects s).ledger.Agrees := by
  refine agrees_of_no_claims (no_claims ?_ rfl (fun i => ?_) ?_ fun b => ?_)
  · rw [breakEffects_tp]; rfl
  · rw [State.slot, rc_breakEffects]
    exact claims_breakCache (count (.trunk .breaks) { s with tp := s.tp.broken }) i
  · exact tags_managementBroken _
  · simp [State.port, breakEffects, claims_portBroken]

theorem agrees_detectBreak {s : State} (h : s.ledger.Agrees) : (detectBreak s).ledger.Agrees := by
  unfold detectBreak
  split
  · rw [ledger_settle]
    exact agrees_breakEffects s
  · exact h

/-! ## Loading, time and the invalidation engine -/

/-- The load of a configuration changes no holder (R174). -/
theorem ledger_applyLoad (record : Option LoadedRecord) (bad : Nat) (s : State) :
    (applyLoad record bad s).ledger = s.ledger := by
  refine ledger_congr ?_ ?_ ?_ (fun i => ?_) ?_ fun b => ?_
  · simp [applyLoad, reportInvalid, apply_ite]
  · simp [applyLoad, reportInvalid, apply_ite, TrunkPort.opened]
  · simp [applyLoad, reportInvalid, apply_ite, PolicyUnit.loaded]
  · simp [State.slot, applyLoad, reportInvalid, apply_ite]
  · simp [applyLoad, reportInvalid, apply_ite]
  · refine portClaims_congr ?_ ?_ <;> simp [State.port, applyLoad, reportInvalid, apply_ite, BranchPort.loaded]

theorem ledger_loaderArrived (k : Fin 33) (record : Option LoadedRecord) (bad : Nat) (bytes : List Byte) (s : State) :
    (loaderArrived k record bad bytes s).ledger = s.ledger := by
  unfold loaderArrived
  split
  · rfl
  · dsimp only
    split
    · rw [ledger_applyLoad, ledger_writeChunk]
    · rfl

/-- The passing of time changes no holder. -/
theorem ledger_tick (s : State) : (tick s).ledger = s.ledger := by
  unfold tick
  split
  · refine ledger_congr rfl rfl rfl (fun i => rfl) rfl fun b => portClaims_congr ?_ ?_ <;>
      simp [State.port, BranchPort.age]
  · rfl

/-- The engine's treatment of its head changes no holder (R110). -/
theorem ledger_processHead (d : Descriptor) (s : State) : (processHead d s).ledger = s.ledger := by
  unfold processHead
  split
  · rfl
  · split
    · unfold performFence
      split
      · exact ledger_completeFence s
      · rfl
    · exact ledger_performInvalidation d s

end Sys2Proof.Machine
end

section
/-!
Every step keeps every holder of a tag in agreement with its record (O60): the events of the lines, the ports, the store and the Dispatcher, then the commands of the opcode table.
-/

namespace Sys2Proof.Machine

variable {s s' : State}

/-! ## Power and the trunk line -/

theorem agrees_execPowerOn (hs' : execPowerOn s = .next s') : s'.ledger.Agrees := by
  unfold execPowerOn at hs'
  obtain rfl := Host.Outcome.next.inj hs'
  split <;> exact agrees_powerOnState _ _ _

theorem agrees_execPowerLoss (h : s.ledger.Agrees) (hs' : execPowerLoss s = .next s') : s'.ledger.Agrees := by
  unfold execPowerLoss at hs'
  obtain rfl := Host.Outcome.next.inj hs'
  split
  · exact agrees_powerOffState _ _ _
  · exact h

theorem agrees_execLineEntersBreak (h : s.ledger.Agrees) {received : LineFrame}
    (hs' : execLineEntersBreak received s = .next s') : s'.ledger.Agrees :=
  agrees_event_of_eq h (by split <;> rfl) hs'

theorem agrees_execLineReturnsToIdle (h : s.ledger.Agrees) (hs' : execLineReturnsToIdle s = .next s') :
    s'.ledger.Agrees :=
  agrees_event h (by rw [ledger_returnToIdle]; exact agrees_detectBreak h) hs'

theorem agrees_execFrameCompletion (h : s.ledger.Agrees) {frame : LineFrame}
    (hs' : execFrameCompletion frame s = .next s') : s'.ledger.Agrees :=
  agrees_event_of_eq h (by split <;> simp) hs'

theorem agrees_execStartOfTransmission (h : s.ledger.Agrees) (hs' : execStartOfTransmission s = .next s') :
    s'.ledger.Agrees :=
  agrees_event_of_eq h (by split <;> rfl) hs'

theorem agrees_execTransmissionEnd (h : s.ledger.Agrees) (hs' : execTransmissionEnd s = .next s') :
    s'.ledger.Agrees := by
  refine agrees_event h ?_ hs'
  split
  case h_1 hr =>
    split
    · exact agrees_softReset _
    · exact agrees_finishResponse h hr
  case h_2 => exact h

/-! ## The Dispatcher and the Route Cache -/

theorem agrees_execDispatch (h : s.ledger.Agrees) (hs' : execDispatch s = .next s') : s'.ledger.Agrees := by
  refine agrees_event h ?_ hs'
  split
  · rw [ledger_settle]
    exact agrees_dispatchFrame (s := dropIntakeHead s) h _
  · exact h

theorem agrees_execFillCompletion (hcache : CacheSound s.rc) (h : s.ledger.Agrees)
    (hs' : execFillCompletion s = .next s') : s'.ledger.Agrees := by
  refine agrees_event h ?_ hs'
  split
  · rw [ledger_settle]
    exact agrees_fillResult (s := freePort s) h hcache _ _
  · rw [ledger_settle]
    exact h
  · exact h

theorem agrees_execFillRefusal (hcache : CacheSound s.rc) (h : s.ledger.Agrees) {i : SlotNo}
    (hs' : execFillRefusal i s = .next s') : s'.ledger.Agrees := by
  refine agrees_event h ?_ hs'
  split
  · rw [ledger_settle]
    exact agrees_fillRefused (s := { s with ts := { s.ts with refusedFills := s.ts.refusedFills.erase i } }) h hcache i
  · exact h

theorem agrees_execChunkCompletion (h : s.ledger.Agrees) (hs' : execChunkCompletion s = .next s') :
    s'.ledger.Agrees := by
  refine agrees_event h ?_ hs'
  split
  · rw [ledger_settle]
    exact agrees_chunkArrived (s := freePort s) h _ _ _
  · rw [ledger_settle]
    exact h
  · exact h

theorem agrees_execLoaderReadCompletion (h : s.ledger.Agrees) (hs' : execLoaderReadCompletion s = .next s') :
    s'.ledger.Agrees := by
  refine agrees_event_of_eq h ?_ hs'
  split
  · rw [ledger_settle, ledger_loaderArrived, ledger_freePort]
  · rfl

theorem agrees_execProcessingEvent (h : s.ledger.Agrees) (hs' : execProcessingEvent s = .next s') :
    s'.ledger.Agrees := by
  refine agrees_event_of_eq h ?_ hs'
  split
  · exact ledger_processHead ..
  · rfl

theorem agrees_execIntervalTimerExpiry (h : s.ledger.Agrees) (hs' : execIntervalTimerExpiry s = .next s') :
    s'.ledger.Agrees :=
  agrees_event_of_eq h (by split <;> rfl) hs'

/-! ## The branch ports -/

theorem agrees_execTakeHead (h : s.ledger.Agrees) {b : Branch} (hs' : execTakeHead b s = .next s') :
    s'.ledger.Agrees := by
  refine agrees_event h ?_ hs'
  split
  case h_1 hidle hqueue => exact agrees_takeEntry h hidle hqueue
  case h_2 => exact h

theorem agrees_execBranchTransmissionEnd (h : s.ledger.Agrees) {b : Branch} {heard : List Byte}
    (hs' : execBranchTransmissionEnd b heard s = .next s') : s'.ledger.Agrees := by
  refine agrees_event h ?_ hs'
  split
  case h_1 hx =>
    split
    · exact agrees_goodEcho h hx
    · exact agrees_faultyEcho h hx
  case h_2 => exact h

theorem agrees_execTransmitWatchdogExpiry (h : s.ledger.Agrees) {b : Branch}
    (hs' : execTransmitWatchdogExpiry b s = .next s') : s'.ledger.Agrees := by
  refine agrees_event h ?_ hs'
  split
  · exact agrees_shutDown h b _
  · exact h

theorem agrees_execResponseTimerExpiry (h : s.ledger.Agrees) {b : Branch}
    (hs' : execResponseTimerExpiry b s = .next s') : s'.ledger.Agrees := by
  refine agrees_event h ?_ hs'
  split
  case h_1 hx _ => exact agrees_responseExpired h hx
  case h_2 => exact h

theorem agrees_execBranchFrameHeard (h : s.ledger.Agrees) {b : Branch} {bytes : List Byte}
    (hs' : execBranchFrameHeard b bytes s = .next s') : s'.ledger.Agrees := by
  refine agrees_event h ?_ hs'
  split
  case h_1 hx => exact agrees_hearReply h hx _
  case h_2 => rwa [ledger_count]
  case h_3 => exact h

/-! ## The Table Store -/

theorem agrees_execOperationCompletion (h : s.ledger.Agrees) (hs' : execOperationCompletion s = .next s') :
    s'.ledger.Agrees :=
  agrees_event_of_eq h (by split <;> simp) hs'

theorem agrees_execSuspendEffective (h : s.ledger.Agrees) (hs' : execSuspendEffective s = .next s') :
    s'.ledger.Agrees :=
  agrees_event_of_eq h (by split <;> simp) hs'

theorem agrees_execHoldoffExpiry (h : s.ledger.Agrees) (hs' : execHoldoffExpiry s = .next s') :
    s'.ledger.Agrees := by
  refine agrees_event_of_eq h ?_ hs'
  split
  · rw [ledger_settle, ledger_rejudgeFills]; rfl
  · rfl

theorem agrees_execStoreReadCompletion (h : s.ledger.Agrees) (hs' : execStoreReadCompletion s = .next s') :
    s'.ledger.Agrees := by
  refine agrees_event h ?_ hs'
  split
  · rw [ledger_settle]
    exact agrees_finishStoreRead (s := freePort s) h _
  · rw [ledger_settle]
    exact h
  · exact h

/-! ## Every command, and every step -/

/-- Every command of the opcode table keeps the ledger in agreement. -/
theorem agrees_exec {c : Instr} (hcache : CacheSound s.rc) (h : s.ledger.Agrees) (hs' : exec c s = .next s') :
    s'.ledger.Agrees := by
  cases c with
  | powerOn => exact agrees_execPowerOn hs'
  | powerLoss => exact agrees_execPowerLoss h hs'
  | lineEntersBreak received => exact agrees_execLineEntersBreak h hs'
  | lineReturnsToIdle => exact agrees_execLineReturnsToIdle h hs'
  | trunkBreak => exact agrees_event h (agrees_detectBreak h) hs'
  | frameCompletion frame => exact agrees_execFrameCompletion h hs'
  | dispatch => exact agrees_execDispatch h hs'
  | fillCompletion => exact agrees_execFillCompletion hcache h hs'
  | fillRefusal slot => exact agrees_execFillRefusal hcache h hs'
  | takeHead branch => exact agrees_execTakeHead h hs'
  | branchTransmissionEnd branch heard => exact agrees_execBranchTransmissionEnd h hs'
  | transmitWatchdogExpiry branch => exact agrees_execTransmitWatchdogExpiry h hs'
  | responseTimerExpiry branch => exact agrees_execResponseTimerExpiry h hs'
  | branchFrameHeard branch bytes => exact agrees_execBranchFrameHeard h hs'
  | startOfTransmission => exact agrees_execStartOfTransmission h hs'
  | transmissionEnd => exact agrees_execTransmissionEnd h hs'
  | operationCompletion => exact agrees_execOperationCompletion h hs'
  | suspendEffective => exact agrees_execSuspendEffective h hs'
  | holdoffExpiry => exact agrees_execHoldoffExpiry h hs'
  | storeReadCompletion => exact agrees_execStoreReadCompletion h hs'
  | chunkCompletion => exact agrees_execChunkCompletion h hs'
  | loaderReadCompletion => exact agrees_execLoaderReadCompletion h hs'
  | intervalTimerExpiry => exact agrees_execIntervalTimerExpiry h hs'
  | processingEvent => exact agrees_execProcessingEvent h hs'
  | identify => exact agrees_execPlain h hs' fun t => answers_reply ..
  | readConfig => exact agrees_execPlain h hs' fun t => answers_reply ..
  | setConfig => exact agrees_execAnswer h hs' fun t params => answers_setConfigCommand ..
  | events => exact agrees_execPlain h hs' fun t => answers_after (u := clearLatches s) rfl rfl
  | setEventMask => exact agrees_execAnswer h hs' fun t params => answers_setEventMaskCommand ..
  | faultRead => exact agrees_execPlain h hs' fun t => answers_reply ..
  | faultClear => exact agrees_execAnswer h hs' fun t params => answers_faultClearCommand ..
  | changesRead => exact agrees_execPlain h hs' fun t => answers_after (u := { s with ust := s.ust.takeChanges }) rfl rfl
  | unitStatusRead => exact agrees_execAnswer h hs' fun t params => answers_unitStatusReadCommand ..
  | countersRead => exact agrees_execAnswer h hs' fun t params => answers_countersReadCommand ..
  | snapshot => exact agrees_execPlain h hs' fun t => answers_after (u := { s with pm := s.pm.snapshot }) rfl rfl
  | portControlEnable => exact agrees_execPortControl h hs' fun t b ht => (answers_enableCommand t b s).agrees h ht
  | portControlDisable => exact agrees_execPortControl h hs' fun t b ht => agrees_disableCommand h b ht
  | portControlReport => exact agrees_execPortControl h hs' fun t b ht => agrees_reply h ht _ _
  | cancel => exact agrees_execCommand h hs' fun t params ht => agrees_cancelCommand h ht params
  | queueInvalidation => exact agrees_execAnswer h hs' fun t params => answers_queueInvalidationCommand ..
  | iqStatus => exact agrees_execPlain h hs' fun t => answers_reply ..
  | iqRecover => exact agrees_execPlain h hs' fun t => answers_iqRecoverCommand ..
  | storeWriteEnable => exact agrees_execPlain h hs' fun t => answers_writeEnableCommand ..
  | storeWriteDisable => exact agrees_execPlain h hs' fun t => answers_after (u := setWel false s) rfl rfl
  | storeProgram => exact agrees_execAnswer h hs' fun t params => answers_programCommand ..
  | storeErase => exact agrees_execAnswer h hs' fun t params => answers_eraseCommand ..
  | storeSuspend =>
    exact agrees_execPlain h hs' fun t => answers_after (u := { s with ts := { s.ts with phase := s.ts.judgeSuspend.2 } }) rfl rfl
  | storeResume => exact agrees_execPlain h hs' fun t => answers_resumeCommand ..
  | storeRead => exact agrees_execCommand h hs' fun t params ht => agrees_storeReadCommand h ht params
  | storeStatus => exact agrees_execPlain h hs' fun t => answers_reply ..
  | storeProtect => exact agrees_execAnswer h hs' fun t params => answers_protectCommand ..
  | activatePolicyStart => exact agrees_execActivatePolicy h hs' fun t => answers_startActivation ..
  | activatePolicyReport => exact agrees_execActivatePolicy h hs' fun t => answers_reply ..
  | cacheRead => exact agrees_execAnswer h hs' fun t params => answers_cacheReadCommand ..
  | resetBridge =>
    exact agrees_execPlain h hs' fun t => answers_after (u := { s with mu := { s.mu with halted := some t } }) rfl rfl
  | unknownCommand => exact agrees_execAnswer h hs' fun t params => answers_reply ..

/-- Every step keeps the ledger in agreement. -/
theorem agrees_step (hcache : CacheSound s.rc) (h : s.ledger.Agrees) (hs' : step s = .next s') : s'.ledger.Agrees := by
  unfold step at hs'
  split at hs'
  case h_1 =>
    obtain rfl := Host.Outcome.next.inj hs'
    rwa [ledger_tick]
  case h_2 c rest _ => exact agrees_exec (s := s.withPending rest) hcache h hs'

end Sys2Proof.Machine

namespace Sys2Proof
open Sys2Proof.Machine

/-- Settles O60: `TagsHeld` says that the ledger of the tags agrees, and every command keeps it so. -/
theorem tagsAreKept : Obligations.TagsAreKept := by
  intro s s' hcache htags hstep
  rw [tagsHeld_iff_agrees] at htags ⊢
  exact agrees_step hcache htags hstep

end Sys2Proof
end

section
/-!
The ends of transactions (O50) and of exchanges, members and orphans (O51): the update of the Unit Status Table by its cases, and the decision of a broadcast's outcome.
-/

namespace Sys2Proof.Machine

/-! ## The units of the Unit Status Table (R93) -/

theorem unitIndex_byteOf (i : Fin 239) : unitIndex (byteOf (i.val + 1)) = some i := by
  have hval : (byteOf (i.val + 1)).toNat = i.val + 1 := by
    simp only [byteOf, BitVec.toNat_ofNat]
    omega
  simp [unitIndex, hval]

theorem isUnit_byteOf (i : Fin 239) : isUnit (byteOf (i.val + 1)) = true := by
  have hval : (byteOf (i.val + 1)).toNat = i.val + 1 := by
    simp only [byteOf, BitVec.toNat_ofNat]
    omega
  simp [isUnit, hval]

/-- A byte that is no unit from 1 to 239. -/
theorem isUnit_eq_false {u : Byte} (h : ∀ i : Fin 239, u ≠ byteOf (i.val + 1)) : isUnit u = false := by
  by_contra hunit
  have hrange : 1 ≤ u.toNat ∧ u.toNat ≤ 239 := by simpa [isUnit] using hunit
  refine h ⟨u.toNat - 1, by omega⟩ (BitVec.eq_of_toNat_eq ?_)
  simp only [byteOf, BitVec.toNat_ofNat]
  omega

theorem record_byteOf (t : UnitStatusTable) (i : Fin 239) : t.record (byteOf (i.val + 1)) = t.units[i.val] := by
  simp [UnitStatusTable.record, unitIndex_byteOf]

theorem setRecord_byteOf (t : UnitStatusTable) (i : Fin 239) (r : UnitRecord) :
    t.setRecord (byteOf (i.val + 1)) r = { t with units := t.units.set i.val r } := by
  simp [UnitStatusTable.setRecord, unitIndex_byteOf]

/-! ## The update of the Unit Status Table (R94 to R98) -/

/-- A carried status is a change when the unit is watched and its stored status is another (R95). -/
theorem isChange_iff (watch : Bool) (stored carried : Option Byte) :
    isChange watch stored carried = true ↔
      watch = true ∧ ∃ a b : Byte, stored = some a ∧ carried = some b ∧ a ≠ b := by
  unfold isChange
  cases stored <;> cases carried <;> simp

/-- An update without a change (R94), or of a unit whose change is known already. -/
theorem update_unchanged (t : UnitStatusTable) {u : Byte} {i : Fin 239} (hu : u = byteOf (i.val + 1)) (o : OutcomeCode)
    (status : Option Byte) (watch : Bool)
    (h : ¬ (isChange watch t.units[i.val].status status = true ∧ t.units[i.val].changed = false)) :
    t.update u o status watch =
      { t with units := t.units.set i.val (t.units[i.val].updated o status) } := by
  have hno : (isChange watch t.units[i.val].status status && !t.units[i.val].changed) = false := by
    simpa using h
  subst hu
  simp [UnitStatusTable.update, record_byteOf, setRecord_byteOf, isUnit_byteOf, hno]

/-- An update with a change sets the change flag and enters the unit in the Change List, or overflows (R95, R98). -/
theorem update_changed (t : UnitStatusTable) {u : Byte} {i : Fin 239} (hu : u = byteOf (i.val + 1)) (o : OutcomeCode)
    (status : Option Byte) (watch : Bool)
    (h : isChange watch t.units[i.val].status status = true ∧ t.units[i.val].changed = false) :
    t.update u o status watch =
      if t.changes.length < 32 then
        { t with
          units := t.units.set i.val { t.units[i.val].updated o status with changed := true }
          changes := t.changes ++ [u] }
      else { t with units := t.units.set i.val (t.units[i.val].updated o status), overflow := true } := by
  subst hu
  simp [UnitStatusTable.update, record_byteOf, setRecord_byteOf, isUnit_byteOf, h.1, h.2, Config.changeListCapacity]

/-! ## The end of a transaction (R20) -/

/-- The state after the end of a transaction, with the Unit Status Table left open (R20). -/
def endedWith (t : Tag) (o : OutcomeCode) (status : Option Byte) (payload : List Byte) (s : State)
    (ust : UnitStatusTable) : State :=
  { s with
    ust := ust
    tp :=
      { s.tp with
        replies :=
          s.tp.replies ++ [{ tag := t, unit := (s.tag t).unit, outcome := o, status := status, payload := payload }] }
    dsp :=
      { s.dsp with
        tags :=
          s.dsp.tags.set t.val
            { s.tag t with state := .replying, outcome := some o, members := Vector.replicate 4 none } } }

theorem endTransaction_of_no_update {s : State} {t : Tag} {o : OutcomeCode} (status : Option Byte) (watch : Bool)
    (payload : List Byte) (h : updatesStatus (s.tag t) o = false) :
    endTransaction t o status watch payload s = endedWith t o status payload s s.ust := by
  simp [endTransaction, statusUpdate, h, endedWith, appendReply, State.setTag]

theorem endTransaction_of_update {s : State} {t : Tag} {o : OutcomeCode} (status : Option Byte) (watch : Bool)
    (payload : List Byte) (h : updatesStatus (s.tag t) o = true) :
    endTransaction t o status watch payload s =
      endedWith t o status payload s (s.ust.update (s.tag t).unit o status watch) := by
  simp [endTransaction, statusUpdate, h, endedWith, appendReply, State.setTag]

/-! ## The decision of a broadcast (R16) -/

theorem anyMember_iff (m : Vector (Option MemberState) 4) (x : MemberState) :
    anyMember m x = true ↔ ∃ c : Branch, m[c.val] = some x := by
  simp [anyMember]

/-- A flag at a bit of a byte sets that bit and no other (R176). -/
theorem bitOf_flagAt (n : Fin 8) {k : Nat} (hk : k < 8) (b : Bool) : bitOf n.val (flagAt k b) = (b && n.val == k) := by
  have hall : ∀ (n k : Fin 8) (b : Bool), bitOf n.val (flagAt k.val b) = (b && n.val == k.val) := by decide
  exact hall n ⟨k, hk⟩ b

theorem bitOf_or (n : Nat) (a b : Byte) : bitOf n (a ||| b) = (bitOf n a || bitOf n b) := by simp [bitOf]

/-- The failed set holds bit n exactly when member n has failed (R177). -/
theorem bitOf_failedSet (m : Vector (Option MemberState) 4) (n : Fin 8) :
    bitOf n.val (failedSet m) = (m.toList.getD n.val none == some .failed) := by
  have hbits : bitOf n.val (failedSet m) =
      ((m[0] == some .failed && n.val == 0) || (m[1] == some .failed && n.val == 1) ||
        (m[2] == some .failed && n.val == 2) || (m[3] == some .failed && n.val == 3)) := by
    simp only [failedSet, bitOf_or]
    rw [bitOf_flagAt, bitOf_flagAt, bitOf_flagAt, bitOf_flagAt] <;> decide
  rw [hbits]
  fin_cases n <;> simp

/-! ## Ends at a branch port (R17, R77) -/

theorem tag_releaseSlot (o : Option SlotNo) (s : State) (t : Tag) : (releaseSlot o s).tag t = s.tag t := by
  simp [State.tag]

/-- The change-watch of the route that a slot holds (R96). -/
theorem watchOf_eq (s : State) (slot : Option SlotNo) :
    watchOf s slot =
      match slot with
      | some i =>
        match s.slot i with
        | .valid _ route _ => route.watch
        | .stale _ route _ => route.watch
        | _ => false
      | none => false := by
  cases slot with
  | none => rfl
  | some i => cases h : s.slot i <;> simp [watchOf, CacheSlot.route, h]

/-- The payload of a response to a unit request: the ACK's, with the outcome DONE (R17). -/
theorem endPayload_eq (o : OutcomeCode) (cause : EndCause) :
    (if o = .done then cause.payload else []) =
      match o, cause with
      | .done, .ack payload => payload
      | _, _ => [] := by
  cases o with
  | done => cases cause <;> rfl
  | _ => rfl

end Sys2Proof.Machine

namespace Sys2Proof
open Sys2Proof.Machine

/-- Settles O50, by the cases of the update of the Unit Status Table. -/
theorem transactionsEnd : Obligations.TransactionsEnd := by
  refine ⟨fun t o s => rfl, fun s t o status watch payload => ⟨fun h => ?_, fun i hunit hop ho => ?_⟩⟩
  · refine endTransaction_of_no_update status watch payload ?_
    rcases h with h | h | h
    · simp [updatesStatus, isUnit_eq_false h]
    · simp [updatesStatus, h]
    · simp [updatesStatus, h]
  · have hupdates : updatesStatus (s.tag t) o = true := by simp [updatesStatus, hunit, isUnit_byteOf, hop, ho]
    rw [endTransaction_of_update status watch payload hupdates]
    have hchange : ∀ v : UnitRecord, (isChange watch v.status status = true ∧ v.changed = false) ↔
        watch = true ∧ v.changed = false ∧ ∃ a b : Byte, v.status = some a ∧ status = some b ∧ a ≠ b := fun v => by
      rw [isChange_iff]; tauto
    refine ⟨fun h => ?_, fun h hlen => ?_, fun h hlen => ?_⟩
    · rw [update_unchanged _ hunit _ _ _ (mt (hchange _).1 h)]
      cases status <;> rfl
    · rw [update_changed _ hunit _ _ _ ((hchange _).2 h), if_pos hlen]
      cases status <;> rfl
    · rw [update_changed _ hunit _ _ _ ((hchange _).2 h), if_neg (by omega)]
      cases status <;> rfl

/-- Settles O51: the end of a unit transaction, of a member and of an exchange, and the outcome of a broadcast. -/
theorem exchangesEnd : Obligations.ExchangesEnd := by
  refine ⟨fun s t cause status => ?_, fun s t b succeeded => ?_, fun s t => ?_,
    fun s b x cause succeeded status => ?_⟩
  · intro r outcome watch named released faulted
    have houtcome : (if r.cancelPending = true then .cancelled else cause.outcome) = outcome := by cases cause <;> rfl
    have hwatch : watchOf s r.slot = watch := watchOf_eq s r.slot
    have hreleased : releaseSlot r.slot named = released := by cases h : r.slot <;> simp [released, releaseSlot, h]
    have htag : released.tag t = { r with slot := none } := by
      rw [← hreleased, tag_releaseSlot]
      exact tag_setTag_self s t _
    have hfaulted : recordEndFault t outcome released =
        if outcome = .unitTimeout then faulted .unitTimeout
        else if outcome = .unitError then faulted .unitError
        else released := by
      unfold recordEndFault
      rw [htag]
      cases outcome <;> rfl
    rw [← hfaulted, ← hreleased, ← hwatch, ← houtcome]
    unfold endUnit
    dsimp only
    rw [endPayload_eq]
    rfl
  · cases succeeded <;> rfl
  · intro m stands
    have hpending := anyMember_iff m .pending
    have hsucceeded := anyMember_iff m .succeeded
    have hfailed := anyMember_iff m .failed
    refine ⟨fun hp => ?_, fun hp hs hf => ?_, fun hp hs => ?_, fun hnone => ?_, fun hp hs hf =>
      ⟨failedSet m, bitOf_failedSet m, ?_⟩⟩
    · exact if_pos (hpending.2 hp)
    · exact (if_neg (mt hpending.1 hp)).trans ((if_pos (hsucceeded.2 hs)).trans (if_neg (mt hfailed.1 hf)))
    · exact (if_neg (mt hpending.1 hp)).trans (if_neg (mt hsucceeded.1 hs))
    · have hno : ∀ x, ¬ stands x := fun x ⟨c, hc⟩ => by simp [hnone c] at hc
      exact (if_neg (mt hpending.1 (hno _))).trans (if_neg (mt hsucceeded.1 (hno _)))
    · exact (if_neg (mt hpending.1 hp)).trans ((if_pos (hsucceeded.2 hs)).trans (if_pos (hfailed.2 hf)))
  · intro reported p
    have hreported : reportEnd b x cause succeeded status s = reported := by
      simp only [reportEnd, releaseSlot, reported]
      cases x.orphan with
      | true => cases x.slot <;> rfl
      | false =>
        cases x.tag with
        | none => cases x.slot <;> rfl
        | some t => cases x.kind <;> rfl
    unfold endExchange
    rw [hreported]
    rfl

end Sys2Proof
end

section
/-!
The policy check, by its cases: the judgement of a unit request (O48), the fan-out of a broadcast and the holding of requests (O49).
-/

namespace Sys2Proof.Machine

/-! ## Actions (R47, R48, R53) -/

/-- The action of a channel stands at the channel's place of its row. -/
theorem action_eq (p : PolicyUnit) (c : Fin 16) (store : Bool) (channel : Fin 64) :
    p.action c store channel.val = (p.image[(imageRow c store).val])[channel.val] := by
  simp [PolicyUnit.action]

/-- The stricter of two actions, from ILLEGAL through BUSY and LOCAL to PASS (R53). -/
theorem stricter_eq (a b : Action) :
    a.stricter b =
      if a = .illegal ∨ b = .illegal then .illegal
      else if a = .busy ∨ b = .busy then .busy
      else if a = .localAnswer ∨ b = .localAnswer then .localAnswer
      else .pass := by
  cases a <;> cases b <;> rfl

/-- The action applied to a request, by its op (R53). -/
theorem actionFor_eq (p : PolicyUnit) (op : Option ReqOp) (c : Fin 16) (channel : Nat) :
    p.actionFor op c channel =
      if op = some .write then p.action c true channel
      else if op = some .exchange then (p.action c false channel).stricter (p.action c true channel)
      else p.action c false channel := by
  cases op with
  | none => rfl
  | some o => cases o <;> rfl

/-! ## Local answers and queue entries (R13, R14) -/

/-- A local answer, by the op and the absorb flag of the route (R13). -/
theorem answerLocally_eq (t : Tag) (route : Route) (s : State) :
    answerLocally t route s =
      count (.bridge .localAnswers)
        (if (s.tag t).op = some .read ∨ ((s.tag t).op = some .exchange ∧ route.absorb = true) then
          endTransaction t .doneLocal none false (List.replicate (s.tag t).length.toNat route.conditioning) s
        else if route.absorb = true then endTransaction t .doneLocal none false [] s
        else endTransaction t .refusedIllegal none false [] s) := by
  unfold answerLocally localAnswerOf
  cases (s.tag t).op with
  | none => cases route.absorb <;> simp
  | some o => cases o <;> cases route.absorb <;> simp

/-- A reference is counted on a VALID slot; another slot stays as it is (R40). -/
theorem takeReference_eq (i : SlotNo) (s : State) :
    takeReference i s =
      { s with
        rc :=
          { s.rc with
            slots :=
              s.rc.slots.set i.val
                (match s.slot i with
                | .valid v q n => .valid v q (n + 1)
                | c => c) } } := by
  have hself : s.rc.slots.set i.val (s.slot i) = s.rc.slots := Vector.set_getElem_self _
  unfold takeReference
  cases hs : s.slot i with
  | valid u r n => rfl
  | _ => rw [hs] at hself; simp only [hself]

/-! ## Dispatch order (R2, R30, R63) -/

theorem earlier_iff (s : State) (a b : Tag) :
    earlier s a b = true ↔ 1 ≤ ((s.tag b).seq - (s.tag a).seq).toNat ∧
      ((s.tag b).seq - (s.tag a).seq).toNat ≤ 2147483647 := by
  simp [earlier]

/-- A tag is placed after the tags dispatched earlier and before the first dispatched later. -/
theorem insertByDispatch_append (s : State) (t : Tag) {before after : List Tag}
    (hbefore : ∀ v ∈ before, earlier s v t = true) (hafter : ∀ v ∈ after.head?, ¬ earlier s v t = true) :
    insertByDispatch s t (before ++ after) = before ++ t :: after := by
  induction before with
  | nil =>
    cases after with
    | nil => rfl
    | cons v vs => exact if_neg (hafter v rfl)
  | cons u us ih =>
    simp only [List.cons_append, insertByDispatch, hbefore u List.mem_cons_self, if_true]
    rw [ih fun v hv => hbefore v (List.mem_cons_of_mem _ hv)]

/-- A tag keeps its dispatch sequence when its transaction is held. -/
theorem seq_setTag_held (s : State) (t v : Tag) :
    ((s.setTag t { s.tag t with state := .held }).tag v).seq = (s.tag v).seq := by
  rw [tag_setTag]
  split
  case isTrue h => rw [h]
  case isFalse => rfl

/-- A request that is held takes its place in dispatch order (R11, R63). -/
theorem hold_eq (s : State) (t : Tag) {before after : List Tag} (hheld : s.pu.held = before ++ after)
    (hbefore : ∀ v ∈ before, earlier s v t = true) (hafter : ∀ v ∈ after.head?, ¬ earlier s v t = true) :
    hold t s =
      { s with
        dsp := { s.dsp with tags := s.dsp.tags.set t.val { s.tag t with state := .held } }
        pu := { s.pu with held := before ++ t :: after } } := by
  have hearlier : ∀ v, earlier (s.setTag t { s.tag t with state := .held }) v t = earlier s v t := fun v => by
    simp only [earlier, seq_setTag_held]
  have hinsert := insertByDispatch_append (s.setTag t { s.tag t with state := .held }) t (before := before)
    (after := after) (by simpa only [hearlier] using hbefore) (by simpa only [hearlier] using hafter)
  rw [← hheld] at hinsert
  simp only [hold, setTag_pu, hinsert]
  rfl

end Sys2Proof.Machine

namespace Sys2Proof
open Sys2Proof.Machine

/-- Settles O48, check by check. -/
theorem policyChecksInOrder : Obligations.PolicyChecksInOrder := by
  refine ⟨fun p c channel => ⟨action_eq p c false channel, action_eq p c true channel⟩, fun s t i route => ?_⟩
  intro r channel facts u fetch store action refused illegal locally
  have htag : u.tag t = { r with facts := some facts } := tag_setTag_self s t _
  have hlocally : answerLocally t route u = locally := by rw [answerLocally_eq, htag]
  have hillegal : refuseIllegal t channel u = illegal := by
    unfold refuseIllegal policyFault
    rw [htag]; rfl
  have haction : u.pu.actionFor (u.tag t).op route.policyClass channel = action := by
    rw [htag, actionFor_eq, stricter_eq]
  have hentered : enterQueue t i route.branch u =
      { u with
        dsp :=
          { s.dsp with
            tags := s.dsp.tags.set t.val { r with facts := some facts, state := .queued, slot := some i } }
        rc :=
          { s.rc with
            slots :=
              s.rc.slots.set i.val
                (match s.slot i with
                | .valid v q n => .valid v q (n + 1)
                | c => c) }
        ports :=
          s.ports.set route.branch.val
            { s.port route.branch with
              queue := (s.port route.branch).queue ++ [{ tag := t, kind := .unit }] } } := by
    unfold enterQueue
    rw [takeReference_eq, htag]
    simp [State.setPort, State.setTag, u, State.port, State.slot]
  have hjudge : judgeUnitRequest t i route s =
      match route.service with
      | .oosRefuse => refuse t .refusedBusy u
      | .oosLocal => answerLocally t route u
      | .inService => actionChecks t i route u := rfl
  have hchannel : physicalChannel (u.tag t) route = channel := by rw [htag]; rfl
  rw [hjudge]
  cases route.service with
  | oosRefuse => rfl
  | oosLocal => exact hlocally
  | inService =>
    rw [if_neg (by simp), if_neg (by simp)]
    unfold actionChecks
    rw [hchannel]
    dsimp only
    split
    · exact hillegal
    · rw [haction]
      clear_value action
      cases action with
      | illegal => exact hillegal
      | busy => rfl
      | localAnswer => exact hlocally
      | pass =>
        unfold portChecks
        rw [hentered]
        rfl

/-- Settles O49: the fan-out is `fanOut_eq`, the place in the held list `hold_eq`. -/
theorem broadcastsFanOutAndRequestsAreHeld : Obligations.BroadcastsFanOutAndRequestsAreHeld := by
  refine ⟨fun s t => ?_, fun s t i route => ⟨fun hidle => ?_, fun before after hrunning hheld _ hbefore hafter => ?_⟩⟩
  · intro channel
    have hjudge : judgeBroadcast t s =
        match s.pu.action s.config.broadcastClass true channel with
        | .illegal => refuseIllegal t channel s
        | .busy => refuse t .refusedBusy s
        | .localAnswer => count (.bridge .localAnswers) (endPlain t .doneLocal s)
        | .pass => fanOut t s := rfl
    rw [hjudge, fanOut_eq]
    rfl
  · have hcheck : activationRunning s = false := by simp [activationRunning, hidle]
    simp [unitPolicyCheck, broadcastPolicyCheck, hcheck]
  · have hcheck : activationRunning s = true := by simp [activationRunning, hrunning]
    have hhold := hold_eq s t hheld (fun v hv => (earlier_iff s v t).2 (not_not.1 (hbefore v hv)))
      fun v hv => mt (earlier_iff s v t).1 (hafter v hv)
    simp only [unitPolicyCheck, broadcastPolicyCheck, hcheck, if_true]
    exact ⟨hhold, hhold⟩

end Sys2Proof
end

section
/-!
CANCEL by the state of the named transaction (O21).
-/

namespace Sys2Proof.Machine

/-! ## CANCEL (R18) -/

/-! The transaction under the named tag, by its state. -/

theorem cancelTransaction_of_lookup {u : Tag} {s : State} (h : (s.tag u).state = .lookup) :
    cancelTransaction u s = (.accepted, endPlain u .cancelled (leaveWaiters u s)) := by
  simp [cancelTransaction, h]

theorem cancelTransaction_of_held {u : Tag} {s : State} (h : (s.tag u).state = .held) :
    cancelTransaction u s = (.accepted, endPlain u .cancelled (leaveHeld u s)) := by
  simp [cancelTransaction, h]

theorem cancelTransaction_of_queued {u : Tag} {s : State} (h : (s.tag u).state = .queued) :
    cancelTransaction u s = (.accepted, endPlain u .cancelled (dropReference u (leaveQueue u s))) := by
  simp [cancelTransaction, h]

theorem cancelTransaction_of_active {u : Tag} {s : State} (h : (s.tag u).state = .active) :
    cancelTransaction u s = (.accepted, s.setTag u { s.tag u with cancelPending := true }) := by
  simp [cancelTransaction, h]

theorem cancelTransaction_of_other {u : Tag} {s : State} (hlookup : (s.tag u).state ≠ .lookup)
    (hheld : (s.tag u).state ≠ .held) (hqueued : (s.tag u).state ≠ .queued) (hactive : (s.tag u).state ≠ .active) :
    cancelTransaction u s = (.notCancellable, s) := by
  unfold cancelTransaction
  split <;> simp_all

/-- CANCEL keeps the unit of every record, so its own reply updates no unit record. -/
theorem unit_cancelTransaction (u v : Tag) (s : State) :
    ((cancelTransaction u s).2.tag v).unit = (s.tag v).unit := by
  have hwaiters : (leaveWaiters u s).dsp = s.dsp := by simp
  have hheld : (leaveHeld u s).dsp = s.dsp := by simp
  have hqueue : (leaveQueue u s).dsp = s.dsp := by simp
  unfold cancelTransaction
  split
  · rw [unit_endPlain, State.tag, hwaiters, State.tag]
  · rw [unit_endPlain, State.tag, hheld, State.tag]
  · rw [unit_endPlain, dropReference, tag_releaseSlot]
    have hkept : (leaveQueue u s).tag v = s.tag v := by rw [State.tag, hqueue, State.tag]
    rw [← hkept]
    exact unit_setTag _ _ _ _ rfl
  · exact unit_setTag _ _ _ _ rfl
  · rfl

/-- The slots once a transaction has left the waiters (R18). -/
theorem leaveWaiters_eq (u : Tag) (s : State) :
    leaveWaiters u s =
      { s with
        rc :=
          { s.rc with
            slots := Vector.ofFn fun i : SlotNo =>
              match s.slot i with
              | .filling v m w => .filling v m (w.filter (· ≠ u))
              | c => c } } := by
  have hslots : (fun i : SlotNo => s.rc.slots[i.val].withoutWaiter u) = fun i : SlotNo =>
      match s.slot i with
      | .filling v m w => .filling v m (w.filter (· ≠ u))
      | c => c := by
    funext i
    show (s.slot i).withoutWaiter u = _
    cases s.slot i <;> rfl
  unfold leaveWaiters
  rw [hslots]

/-- The entry of a transaction leaves its Branch Queue and its reference is released, its record no longer naming the slot (R18). -/
theorem dropReference_leaveQueue (u : Tag) (s : State) :
    dropReference u (leaveQueue u s) =
      let left : State :=
        match (s.tag u).facts with
        | some f =>
          { s with
            ports :=
              s.ports.set f.branch.val
                { s.port f.branch with
                  queue := (s.port f.branch).queue.filter (· ≠ { tag := u, kind := .unit }) } }
        | none => s
      let named : State :=
        { left with dsp := { s.dsp with tags := s.dsp.tags.set u.val { s.tag u with slot := none } } }
      match (s.tag u).slot with
      | some i => releaseReference i named
      | none => named := by
  have hrecord : (leaveQueue u s).tag u = s.tag u := by simp [State.tag]
  unfold dropReference
  rw [hrecord]
  unfold leaveQueue releaseSlot
  cases (s.tag u).facts <;> cases (s.tag u).slot <;> simp [State.setTag, State.setPort]

/-- The tag that CANCEL's one parameter names (R18, R180). -/
theorem ofNat_byteOf_tag (u : Tag) : Fin.ofNat 16 (byteOf u.val).toNat = u := by
  ext
  simp only [byteOf, BitVec.toNat_ofNat, Fin.val_ofNat]
  omega

/-- CANCEL refuses its parameters exactly when they are not one byte from 0 to 15. -/
theorem cancelRefused_iff (params : List Byte) :
    (params.length != 1 || 15 < (byteAt params 0).toNat) = true ↔ ∀ u : Tag, params ≠ [byteOf u.val] := by
  constructor
  · rintro h u rfl
    have hu : (byteOf u.val).toNat ≤ 15 := by
      simp only [byteOf, BitVec.toNat_ofNat]; omega
    simp [byteAt] at h
    omega
  · intro h
    by_contra hno
    obtain ⟨hlength, hrange⟩ : params.length = 1 ∧ (byteAt params 0).toNat ≤ 15 := by simpa using hno
    obtain ⟨b, rfl⟩ := List.length_eq_one_iff.1 hlength
    have hb : b.toNat ≤ 15 := hrange
    refine h ⟨b.toNat, by omega⟩ ?_
    simp [byteOf]

end Sys2Proof.Machine

namespace Sys2Proof
open Sys2Proof.Machine

/-- Settles O21, by the state of the named record. -/
theorem cancelEnds : Obligations.CancelEnds := by
  intro s t params hready
  have hexec : exec .cancel s = .next (cancelCommand t params s) := by
    have hcommand := whenCommand_of_ready hready (p := (· == 12)) rfl cancelCommand
    exact (event_of_powered hready.1 _).trans (by rw [hcommand])
  have hunit : (s.tag t).unit = 0 := hready.2.2.2.1
  refine ⟨fun u hu => ?_, fun h => ?_⟩
  · intro r
    have haccepted : (params.length != 1 || 15 < (byteAt params 0).toNat) = false := by
      rw [Bool.eq_false_iff]
      exact fun hrefused => (cancelRefused_iff params).1 hrefused u hu
    have hnamed : Fin.ofNat 16 (byteAt params 0).toNat = u := by rw [hu]; exact ofNat_byteOf_tag u
    have hcancel : cancelCommand t params s =
        answered t (cancelTransaction u s).1 [] (cancelTransaction u s).2 := by
      unfold cancelCommand
      rw [haccepted, hnamed]
      exact reply_eq_answered ((unit_cancelTransaction u t s).trans hunit) _ _
    rw [hexec, hcancel]
    congr 1
    split
    case h_1 _ hstate => rw [cancelTransaction_of_lookup hstate, leaveWaiters_eq] <;> rfl
    case h_2 _ hstate => rw [cancelTransaction_of_held hstate]; rfl
    case h_3 _ hstate => rw [cancelTransaction_of_queued hstate, dropReference_leaveQueue] <;> rfl
    case h_4 _ hstate => rw [cancelTransaction_of_active hstate]; rfl
    case h_5 _ hlookup hheld hqueued hactive => rw [cancelTransaction_of_other hlookup hheld hqueued hactive]
  · have hrefused := (cancelRefused_iff params).2 h
    rw [hexec, cancelCommand, if_pos hrefused, reply_eq_answered hunit]

end Sys2Proof
end

section
/-!
The state after power-on (O53).
-/

namespace Sys2Proof.Machine

/-! ## What the state after power-on holds -/

@[simp] theorem tag_reset (t : Tag) : State.reset.tag t = TagRecord.blank := by
  simp [State.tag, State.reset, Dispatcher.reset]

@[simp] theorem slot_reset (i : SlotNo) : State.reset.slot i = .empty := by
  simp [State.slot, State.reset, RouteCache.reset]

@[simp] theorem port_reset (b : Branch) : State.reset.port b = BranchPort.reset := by
  simp [State.port, State.reset]

@[simp] theorem unit_reset (i : Fin 239) : State.reset.ust.units[i.val] = UnitRecord.reset := by
  simp [State.reset, UnitStatusTable.reset]

@[simp] theorem faultRecord_reset (n : Fin 8) : State.reset.frf.records[n.val] = none := by
  simp [State.reset, FaultFile.reset]

/-! ## Its soundness, invariant by invariant -/

theorem withinCapacity_reset : WithinCapacity State.reset := by
  refine ⟨by decide, fun b => ?_, by decide, by decide, by decide⟩
  simp [BranchPort.reset]

theorem changeListAgrees_reset : ChangeListAgrees State.reset.ust := by
  have hnone : State.reset.ust.changes = [] := rfl
  refine ⟨by simp [hnone], by simp [hnone], fun i => ?_⟩
  simp [hnone, UnitRecord.reset]

theorem faultFileSound_reset : FaultFileSound State.reset.frf := by
  refine ⟨fun i j _ hpending => ?_, fun i hfirst => by cases hfirst⟩
  simp at hpending

theorem storeSound_reset : StoreSound State.reset.ts := by
  decide

theorem cacheSound_reset : CacheSound State.reset.rc := by
  have hempty : ∀ i : SlotNo, State.reset.rc.slots[i.val] = .empty := slot_reset
  have hrecency : State.reset.rc.recency = [] := rfl
  refine ⟨fun i j _ u hmatch => ?_, by simp [hrecency], fun i => ?_, fun i hstale => ?_⟩
  · simp [hempty, CacheSlot.matchesUnit] at hmatch
  · simp [hempty, hrecency, CacheSlot.isValid]
  · simp [hempty, CacheSlot.isStale] at hstale

theorem engineSound_reset : EngineSound State.reset.iqe := by
  decide

theorem fenceWaits_reset : FenceWaits State.reset := by
  intro h
  exact absurd h (by decide)

theorem referencesHeld_reset : ReferencesHeld State.reset := by
  have hidle : BranchPort.reset.exchange.current = none := rfl
  refine ⟨⟨fun t hactive => ?_, fun b x hx => ?_⟩, fun i => ?_⟩
  · simp [TagRecord.blank] at hactive
  · simp [hidle] at hx
  · have htags : TagRecord.blank.names i = false := rfl
    have hports : BranchPort.reset.orphanNames i = false := rfl
    simp [htags, hports, CacheSlot.refs]

theorem trunkSound_reset : TrunkSound State.reset.tp := by
  decide

theorem sound_reset : Sound State.reset :=
  ⟨withinCapacity_reset, changeListAgrees_reset, faultFileSound_reset, storeSound_reset, cacheSound_reset,
    engineSound_reset, fenceWaits_reset, (tagsHeld_iff_agrees _).2 agrees_reset, referencesHeld_reset,
    trunkSound_reset⟩

end Sys2Proof.Machine

namespace Sys2Proof
open Sys2Proof.Machine

/-- Settles O53: the fields one by one, the invariants by `sound_reset`. -/
theorem resetIsAsTheRulesSay : Obligations.ResetIsAsTheRulesSay := by
  refine ⟨rfl, rfl, rfl, rfl, rfl, rfl, fun t => by rw [tag_reset]; rfl, rfl, slot_reset, rfl, rfl, rfl, fun b => ?_,
    fun i => unit_reset i, rfl, rfl, rfl, rfl, rfl, rfl, rfl, rfl, rfl, rfl, rfl, rfl, rfl, faultRecord_reset, rfl, rfl,
    fun n => ?_, rfl, rfl, rfl, rfl, rfl, rfl, rfl, rfl, rfl, rfl, ⟨0, rfl, rfl⟩, sound_reset⟩
  · rw [port_reset]; rfl
  · simp [State.reset, PerformanceMonitor.reset]

end Sys2Proof
end

section
/-!
DISPATCH of a frame that is answered at once (O33): the fields of the frame, what makes it bad, and the branches of the dispatch.
-/

namespace Sys2Proof.Machine

/-! ## The fields of a request (R176, R177) -/

/-- A byte of a frame before its check; zero when the frame does not reach it (R176). -/
theorem byteAt_frameBody (frame : List Byte) (i : Nat) :
    byteAt (frameBody frame) i = if i + 2 < frame.length then frame.getD i 0 else 0 := by
  have hbody : byteAt (frameBody frame) i = if i < frame.length - 2 then frame.getD i 0 else 0 := by
    simp only [byteAt, frameBody, List.getD_eq_getElem?_getD, List.getElem?_take]
    split <;> rfl
  rw [hbody]
  exact if_congr (by omega) rfl rfl

/-- The kind of a frame is the upper half of its first byte. -/
theorem shiftRight_four_eq_one_iff (b : Byte) : b >>> 4 = 1 ↔ b.toNat / 16 = 1 := by
  rw [← BitVec.toNat_inj, BitVec.toNat_ushiftRight, Nat.shiftRight_eq_div_pow]
  rfl

/-! ## Bad requests (R5) -/

/-- The length field and the payload bytes disagree with the op or the unit (R5): `RequestFrame.lengthAgrees` denied, as a proposition. -/
def RequestFrame.Disagrees (r : RequestFrame) : Prop :=
  if r.unit = 0 then ¬ (r.length.toNat ≤ 48 ∧ r.size = r.length.toNat + 7)
  else
    match ReqOp.ofCode r.opCode with
    | some .read => ¬ (1 ≤ r.length.toNat ∧ r.length.toNat ≤ 48 ∧ r.size = 7)
    | some .write => ¬ (1 ≤ r.length.toNat ∧ r.length.toNat ≤ 48 ∧ r.size = r.length.toNat + 7)
    | some .exchange => ¬ (1 ≤ r.length.toNat ∧ r.length.toNat ≤ 48 ∧ r.size = r.length.toNat + 7)
    | some .queryLast => ¬ (r.length.toNat = 0 ∧ r.size = 7)
    | none => True

theorem lengthAgrees_eq_false_iff (r : RequestFrame) : r.lengthAgrees = false ↔ r.Disagrees := by
  have hmax : Config.payloadMax = 48 := rfl
  have hzero : (r.length == 0) = (r.length.toNat == 0) := by
    rw [Bool.eq_iff_iff, beq_iff_eq, beq_iff_eq, ← BitVec.toNat_inj]
    rfl
  unfold RequestFrame.lengthAgrees RequestFrame.Disagrees
  rw [hmax, hzero]
  by_cases hunit : r.unit = 0
  · rw [if_pos hunit, if_pos hunit]
    simp
  · rw [if_neg hunit, if_neg hunit]
    cases ReqOp.ofCode r.opCode with
    | none => simp
    | some op => cases op <;> simp

theorem isBad_iff (r : RequestFrame) :
    r.isBad = true ↔
      r.kind ≠ 1 ∨ (240 ≤ r.unit.toNat ∧ r.unit.toNat ≤ 254) ∨ ReqOp.ofCode r.opCode = none ∨ 63 < r.channel.toNat ∨
        r.Disagrees ∨ (r.unit.toNat = 255 ∧ ReqOp.ofCode r.opCode ≠ some .write) := by
  have hbroadcast : (r.unit == 0xFF) = (r.unit.toNat == 255) := by
    rw [Bool.eq_iff_iff, beq_iff_eq, beq_iff_eq, ← BitVec.toNat_inj]
    rfl
  rw [RequestFrame.isBad, hbroadcast]
  simp [lengthAgrees_eq_false_iff, or_assoc]

theorem isUnit_iff (u : Byte) : isUnit u = true ↔ 1 ≤ u.toNat ∧ u.toNat ≤ 239 := by
  simp [isUnit]

/-! ## The branches of a dispatch (R4 to R10) -/

theorem exec_dispatch {s : State} {frame : List Byte} {rest : List (List Byte)} (hpowered : s.powered = true)
    (hintake : s.tp.intake = frame :: rest) :
    exec .dispatch s =
      .next (settle (dispatchFrame (decodeRequest frame) { s with tp := { s.tp with intake := rest } })) := by
  have hdrop : dropIntakeHead s = { s with tp := { s.tp with intake := rest } } := by
    rw [dropIntakeHead, hintake, List.tail_cons]
  exact (event_of_powered hpowered _).trans (by rw [hintake, ← hdrop])

/-- The frame of a busy tag is discarded (R6). -/
theorem dispatchFrame_of_busy {r : RequestFrame} {s : State} (h : (s.tag r.tag).state ≠ .free) :
    dispatchFrame r s = discardReuse r.tag s := if_pos h

/-- A bad request is answered (R5). -/
theorem dispatchFrame_of_bad {r : RequestFrame} {s : State} (hfree : (s.tag r.tag).state = .free)
    (hbad : r.isBad = true) : dispatchFrame r s = answerBad r (fillRecord r s) := by
  simp [dispatchFrame, hfree, hbad]

/-- A good request is classified (R7 to R10). -/
theorem dispatchFrame_of_good {r : RequestFrame} {s : State} (hfree : (s.tag r.tag).state = .free)
    (hgood : r.isBad = false) : dispatchFrame r s = classify r (fillRecord r s) := by
  simp [dispatchFrame, hfree, hgood]

theorem classify_management {r : RequestFrame} (s : State) (h : r.unit = 0) : classify r s = managementRequest r s :=
  if_pos h

/-- A management request whose record has just been filled: the record is set once, as MGMT (R7). -/
theorem managementRequest_fillRecord (r : RequestFrame) (s : State) :
    managementRequest r (fillRecord r s) =
      if ReqOp.ofCode r.opCode ≠ some .write then endPlain r.tag .refusedIllegal (fillRecord r s)
      else if 4 ≤ s.mu.queue.length then endPlain r.tag .refusedBusy (fillRecord r s)
      else
        { fillRecord r s with
          dsp :=
            { (fillRecord r s).dsp with
              tags := s.dsp.tags.set r.tag.val { newRecord s.dsp.nextSeq r with state := .mgmt } }
          mu := { s.mu with queue := s.mu.queue ++ [.waiting r.tag] } } := by
  have hset : (fillRecord r s).setTag r.tag { (fillRecord r s).tag r.tag with state := .mgmt } =
      { fillRecord r s with
        dsp :=
          { (fillRecord r s).dsp with
            tags := s.dsp.tags.set r.tag.val { newRecord s.dsp.nextSeq r with state := .mgmt } } } := by
    rw [tag_fillRecord_self]
    simp [fillRecord, State.setTag]
  unfold managementRequest
  dsimp only
  rw [hset]
  rfl

theorem classify_broadcast {r : RequestFrame} (s : State) (h : r.unit = 255) :
    classify r s = broadcastPolicyCheck r.tag s := by
  have hmanagement : r.unit ≠ 0 := fun h0 => absurd (h.symm.trans h0) (by decide)
  rw [classify, if_neg hmanagement, if_pos h]

theorem classify_query {r : RequestFrame} (s : State) (hunit : isUnit r.unit = true)
    (hop : ReqOp.ofCode r.opCode = some .queryLast) : classify r s = answerQuery r s := by
  have hmanagement : r.unit ≠ 0 := fun h => by simp [h, isUnit] at hunit
  have hbroadcast : r.unit ≠ 255 := fun h => by simp [h, isUnit] at hunit
  rw [classify, if_neg hmanagement, if_neg hbroadcast, if_pos hop]

theorem classify_lookup {r : RequestFrame} (s : State) (hmanagement : r.unit ≠ 0) (hbroadcast : r.unit ≠ 255)
    (hop : ReqOp.ofCode r.opCode ≠ some .queryLast) : classify r s = lookup r.tag s := by
  rw [classify, if_neg hmanagement, if_neg hbroadcast, if_neg hop]

end Sys2Proof.Machine

namespace Sys2Proof
open Sys2Proof.Machine

/-- Settles O33, branch by branch of the dispatch. -/
theorem dispatchAnswersAtOnce : Obligations.DispatchAnswersAtOnce := by
  intro s frame rest hpowered hintake field payload t unit op length taken record filled carries disagrees bad
  have hfield : byteAt (frameBody frame) = field := funext (byteAt_frameBody frame)
  let r : RequestFrame :=
    { kind := field 0 >>> 4, tag := t, unit := unit, opCode := field 2, channel := field 3, length := field 4
      payload := payload, size := frame.length }
  have hdecode : decodeRequest frame = r := by
    unfold decodeRequest
    dsimp only
    rw [hfield]
    rfl
  have hexec : exec .dispatch s = .next (settle (dispatchFrame r taken)) := by
    rw [exec_dispatch hpowered hintake, hdecode]
  have hbad : r.isBad = true ↔ bad := by
    have hkind : r.kind ≠ 1 ↔ (field 0).toNat / 16 ≠ 1 := not_congr (shiftRight_four_eq_one_iff (field 0))
    rw [isBad_iff, hkind]
    rfl
  have hfill : fillRecord r taken = filled := rfl
  rw [hexec]
  refine ⟨fun hbusy => ?_, fun hfree hisBad => ?_, fun hfree hgood hunit => ?_, fun i hfree hgood hunit hop => ?_⟩
  · rw [dispatchFrame_of_busy (r := r) (s := taken) hbusy]
    rfl
  · rw [dispatchFrame_of_bad (r := r) (s := taken) hfree (hbad.2 hisBad), hfill]
    exact congrArg (fun v => Host.Outcome.next (settle
      (recordFault { FaultRecord.plain .badRequest with unit := v, tag := some t } (endPlain t .badRequest filled))))
      (if_congr (isUnit_iff unit) rfl rfl)
  · have hnotBad : r.isBad = false := Bool.eq_false_iff.2 (mt hbad.1 hgood)
    rw [dispatchFrame_of_good (r := r) (s := taken) hfree hnotBad, classify_management _ hunit]
    rw [managementRequest_fillRecord]
    rfl
  · have hnotBad : r.isBad = false := Bool.eq_false_iff.2 (mt hbad.1 hgood)
    have hisUnit : isUnit r.unit = true := by rw [show r.unit = byteOf (i.val + 1) from hunit]; exact isUnit_byteOf i
    rw [dispatchFrame_of_good (r := r) (s := taken) hfree hnotBad, hfill, classify_query filled hisUnit hop]
    have hrecord : filled.ust.record r.unit = s.ust.units[i.val] := by
      rw [show r.unit = byteOf (i.val + 1) from hunit]
      exact record_byteOf s.ust i
    rw [answerQuery, hrecord]
    rfl

end Sys2Proof
end

section
/-!
DISPATCH of a good broadcast or unit request (O34): the slot that a lookup finds in a sound cache, and the hit, the join and the miss.
-/

namespace Sys2Proof.Machine

/-! ## The slot that matches a unit (R27) -/

/-- In a sound cache the slot found for a unit is the one that matches it. -/
theorem matching_eq_some {c : RouteCache} (hcache : CacheSound c) {u : Byte} {i : SlotNo}
    (h : c.slots[i.val].matchesUnit u = true) : c.matching u = some i := by
  obtain ⟨hunique, -⟩ := hcache
  cases hfound : c.matching u with
  | none =>
    have hno := List.find?_eq_none.1 hfound i (List.mem_finRange i)
    exact absurd h hno
  | some j =>
    by_cases hji : j = i
    · rw [hji]
    · have hmatch := matchesUnit_of_matching hfound
      rw [hunique i j (Ne.symm hji) u h] at hmatch
      cases hmatch

theorem matching_eq_none {c : RouteCache} {u : Byte} (h : ∀ i : SlotNo, c.slots[i.val].matchesUnit u = false) :
    c.matching u = none :=
  List.find?_eq_none.2 fun i _ => by simp [h i]

/-! ## Hits, joins and misses (R29 to R31) -/

theorem lookup_of_valid {s : State} (hcache : CacheSound s.rc) {t : Tag} {i : SlotNo} {route : Route} {n : Nat}
    (hslot : s.slot i = .valid (s.tag t).unit route n) : lookup t s = lookupHit t i route s := by
  have hmatching : s.rc.matching (s.tag t).unit = some i :=
    matching_eq_some hcache (by rw [← State.slot, hslot]; simp [CacheSlot.matchesUnit])
  simp [lookup, hmatching, hslot]

theorem lookup_of_filling {s : State} (hcache : CacheSound s.rc) {t : Tag} {i : SlotNo} {mark : Bool}
    {waiters : List Tag} (hslot : s.slot i = .filling (s.tag t).unit mark waiters) :
    lookup t s = lookupJoin t i (s.tag t).unit mark waiters s := by
  have hmatching : s.rc.matching (s.tag t).unit = some i :=
    matching_eq_some hcache (by rw [← State.slot, hslot]; simp [CacheSlot.matchesUnit])
  simp [lookup, hmatching, hslot]

theorem lookup_of_unmatched {s : State} {t : Tag}
    (h : ∀ j : SlotNo, (s.slot j).matchesUnit (s.tag t).unit = false) : lookup t s = lookupMiss t (s.tag t).unit s := by
  simp [lookup, matching_eq_none h]

theorem lookupMiss_of_victim {s : State} {t : Tag} {unit : Byte} {i : SlotNo} (h : s.rc.victim = some i) :
    lookupMiss t unit s =
      if (s.slot i).marked = true then
        drainReport (judgeFill i unit (count (.bridge .cacheMisses) (claimSlot t i unit s)))
      else judgeFill i unit (count (.bridge .cacheMisses) (claimSlot t i unit s)) := by
  simp [lookupMiss, h]

end Sys2Proof.Machine

namespace Sys2Proof
open Sys2Proof.Machine

/-- Settles O34, by the class of the request and by what the Route Cache holds for its unit. -/
theorem dispatchLooksUp : Obligations.DispatchLooksUp := by
  intro s frame rest hpowered hintake r u hfree hgood
  have hexec : exec .dispatch s = .next (settle (classify r u)) := by
    have hdispatch := dispatchFrame_of_good (r := r) (s := { s with tp := { s.tp with intake := rest } }) hfree hgood
    exact (exec_dispatch hpowered hintake).trans (congrArg (fun v => Host.Outcome.next (settle v)) hdispatch)
  have hrecord : u.tag r.tag = newRecord s.dsp.nextSeq r := tag_setTag_self s _ _
  have hunit : (u.tag r.tag).unit = r.unit := by rw [hrecord]; rfl
  have hseq : (u.tag r.tag).seq = s.dsp.nextSeq := by rw [hrecord]; rfl
  rw [hexec]
  refine ⟨fun hbroadcast => by rw [classify_broadcast u hbroadcast], fun hmanagement hbroadcast hop hcache => ?_⟩
  rw [classify_lookup u hmanagement hbroadcast hop]
  refine ⟨fun i route n hslot => ?_, fun i mark before after hslot => ?_,
    fun i hunmatched hvictim => ?_⟩
  · rw [lookup_of_valid (s := u) (n := n) hcache (by rw [hunit]; exact hslot)]
    rfl
  · intro later hbefore hafter
    have hinsert : insertByDispatch u r.tag (before ++ after) = before ++ r.tag :: after := by
      refine insertByDispatch_append u r.tag (fun v hv => ?_) fun v hv => ?_
      · rw [earlier_iff, hseq]
        exact not_not.1 (hbefore v hv)
      · rw [earlier_iff, hseq]
        exact hafter v hv
    rw [lookup_of_filling (s := u) hcache (by rw [hunit]; exact hslot), lookupJoin, hinsert, hunit]
    rfl
  · intro issued
    rw [lookup_of_unmatched (s := u) (by rw [hunit]; exact hunmatched), hunit, lookupMiss_of_victim (s := u) hvictim]
    rfl

end Sys2Proof
end

section
/-!
The account of the references: what each slot counts, and what each tag and each port has to do with a reference (R40). `ReferencesHeld` says that the account agrees; a reference is counted at the QUEUED record or at the exchange that names its slot, so the take of a queue's head and a trunk break only pass it on (R22, R72).
-/

namespace Sys2Proof.Machine

/-- What a record has to do with a reference (R40): a QUEUED or ACTIVE one may name a slot. -/
inductive Stake where
  | nothing
  | queued (slot : Option SlotNo)
  | active (slot : Option SlotNo)
  deriving DecidableEq

/-- What a record has to do with a reference. -/
def TagRecord.stake (r : TagRecord) : Stake :=
  match r.state with
  | .queued => .queued r.slot
  | .active => .active r.slot
  | _ => .nothing

/-- What the exchange of a port has to do with a reference (R40, R89): it serves a unit transaction, or is an orphan, or is another that has no right to a reference. -/
inductive Hold where
  | nothing
  | serves (t : Tag) (slot : Option SlotNo)
  | orphan (slot : Option SlotNo)
  | other (slot : Option SlotNo)
  deriving DecidableEq

/-- The slot that a port's exchange names. -/
def Hold.slot : Hold → Option SlotNo
  | .nothing => none
  | .serves _ o => o
  | .orphan o => o
  | .other o => o

/-- What an exchange has to do with a reference. -/
def Exchange.hold (x : Exchange) : Hold :=
  if x.orphan then .orphan x.slot
  else
    match x.kind, x.tag with
    | .unit, some t => .serves t x.slot
    | _, _ => .other x.slot

/-- What a port has to do with a reference. -/
def BranchPort.hold (p : BranchPort) : Hold :=
  match p.exchange.current with
  | some x => x.hold
  | none => .nothing

/-- The references that the slots count, and those who have to do with them. -/
@[ext] structure Account where
  refs : SlotNo → Nat
  stake : Tag → Stake
  hold : Branch → Hold

/-- The account of a state. -/
def State.account (s : State) : Account where
  refs i := (s.slot i).refs
  stake t := (s.tag t).stake
  hold b := (s.port b).hold

namespace Account

/-- The number of QUEUED transactions that name a slot. -/
def queued (A : Account) (i : SlotNo) : Nat := (Finset.univ.filter fun t => A.stake t = .queued (some i)).card

/-- The number of exchanges that name a slot. -/
def held (A : Account) (i : SlotNo) : Nat := (Finset.univ.filter fun b => (A.hold b).slot = some i).card

/-- The ACTIVE transactions and the exchanges that serve them are in pairs that name one slot; an exchange with no right to a reference names no slot. -/
structure Paired (A : Account) : Prop where
  served : ∀ t o, A.stake t = .active o → ∃ b, A.hold b = .serves t o
  serves : ∀ b t o, A.hold b = .serves t o → A.stake t = .active o
  once : ∀ b d t o, A.hold b = .serves t o → A.hold d = .serves t o → b = d
  other : ∀ b o, A.hold b = .other o → o = none

/-- The account agrees: the pairs are in order, and each reference is counted at the QUEUED record or the exchange that names its slot. -/
structure Agrees (A : Account) : Prop where
  paired : A.Paired
  counted : ∀ i, A.refs i = A.queued i + A.held i

/-- The account with the stake of a tag changed. -/
def setStake (A : Account) (t : Tag) (k : Stake) : Account := { A with stake := Function.update A.stake t k }

/-- The account with the hold of a port changed. -/
def setHold (A : Account) (b : Branch) (h : Hold) : Account := { A with hold := Function.update A.hold b h }

/-- The account with the references of a slot changed. -/
def setRefs (A : Account) (i : SlotNo) (n : Nat) : Account := { A with refs := Function.update A.refs i n }

/-- The account with a reference to a slot released, if there is one (R41). -/
def release (A : Account) (o : Option SlotNo) : Account := { A with refs := fun i => A.refs i - if o = some i then 1 else 0 }

/-- The account after a transaction with nothing at stake has entered a Branch Queue with a reference to a slot (R14). -/
def enqueue (A : Account) (t : Tag) (i : SlotNo) : Account := (A.setRefs i (A.refs i + 1)).setStake t (.queued (some i))

@[simp] theorem setStake_self (A : Account) (t : Tag) : A.setStake t (A.stake t) = A := by simp [setStake]
@[simp] theorem setHold_self (A : Account) (b : Branch) : A.setHold b (A.hold b) = A := by simp [setHold]
@[simp] theorem setRefs_self (A : Account) (i : SlotNo) : A.setRefs i (A.refs i) = A := by simp [setRefs]
@[simp] theorem release_none (A : Account) : A.release none = A := by simp [release]
@[simp] theorem setStake_setStake (A : Account) (t : Tag) (k k' : Stake) :
    (A.setStake t k).setStake t k' = A.setStake t k' := by simp [setStake]
@[simp] theorem setStake_stake_self (A : Account) (t : Tag) (k : Stake) : (A.setStake t k).stake t = k := by
  simp [setStake]
@[simp] theorem setHold_hold_self (A : Account) (b : Branch) (h : Hold) : (A.setHold b h).hold b = h := by
  simp [setHold]
@[simp] theorem setStake_hold (A : Account) (t : Tag) (k : Stake) : (A.setStake t k).hold = A.hold := rfl
@[simp] theorem setStake_refs (A : Account) (t : Tag) (k : Stake) : (A.setStake t k).refs = A.refs := rfl
@[simp] theorem setHold_stake (A : Account) (b : Branch) (h : Hold) : (A.setHold b h).stake = A.stake := rfl
@[simp] theorem setHold_refs (A : Account) (b : Branch) (h : Hold) : (A.setHold b h).refs = A.refs := rfl
@[simp] theorem setRefs_stake (A : Account) (i : SlotNo) (n : Nat) : (A.setRefs i n).stake = A.stake := rfl
@[simp] theorem setRefs_hold (A : Account) (i : SlotNo) (n : Nat) : (A.setRefs i n).hold = A.hold := rfl
@[simp] theorem release_stake (A : Account) (o : Option SlotNo) : (A.release o).stake = A.stake := rfl
@[simp] theorem release_hold (A : Account) (o : Option SlotNo) : (A.release o).hold = A.hold := rfl

theorem setStake_stake_ne (A : Account) {t v : Tag} (k : Stake) (h : v ≠ t) : (A.setStake t k).stake v = A.stake v := by
  simp [setStake, h]

theorem setHold_hold_ne (A : Account) {b d : Branch} (k : Hold) (h : d ≠ b) : (A.setHold b k).hold d = A.hold d := by
  simp [setHold, h]

/-- A tag that has nothing at stake may be said to have nothing at stake. -/
theorem setStake_nothing {A : Account} {t : Tag} (h : A.stake t = .nothing) : A.setStake t .nothing = A := by
  rw [← h, setStake_self]

end Account

/-! ## Counting -/

/-- How a count changes when one value changes. -/
theorem card_filter_update {α β : Type} [Fintype α] [DecidableEq α] (f : α → β) (p : β → Prop) [DecidablePred p]
    (a : α) (x : β) :
    (Finset.univ.filter fun c => p (Function.update f a x c)).card + (if p (f a) then 1 else 0) =
      (Finset.univ.filter fun c => p (f c)).card + (if p x then 1 else 0) := by
  have hrest : ∑ c ∈ Finset.univ.erase a, (if p (Function.update f a x c) then 1 else 0) =
      ∑ c ∈ Finset.univ.erase a, (if p (f c) then 1 else 0) :=
    Finset.sum_congr rfl fun c hc => by rw [Function.update_of_ne (Finset.ne_of_mem_erase hc)]
  simp only [Finset.card_filter]
  rw [← Finset.add_sum_erase _ _ (Finset.mem_univ a), ← Finset.add_sum_erase _ (fun c => if p (f c) then 1 else 0) (Finset.mem_univ a),
    hrest, Function.update_self]
  omega

/-- The places of a list of all numbers at which a test holds, counted. -/
theorem length_filter_finRange {n : Nat} (p : Fin n → Bool) :
    ((List.finRange n).filter p).length = (Finset.univ.filter fun k => p k = true).card := by
  rw [← List.toFinset_card_of_nodup ((List.nodup_finRange n).filter p)]
  congr 1
  ext k
  simp

namespace Account

theorem queued_setStake (A : Account) (t : Tag) (k : Stake) (i : SlotNo) :
    (A.setStake t k).queued i + (if A.stake t = .queued (some i) then 1 else 0) =
      A.queued i + (if k = .queued (some i) then 1 else 0) :=
  card_filter_update A.stake (· = .queued (some i)) t k

theorem held_setHold (A : Account) (b : Branch) (h : Hold) (i : SlotNo) :
    (A.setHold b h).held i + (if (A.hold b).slot = some i then 1 else 0) =
      A.held i + (if h.slot = some i then 1 else 0) :=
  card_filter_update A.hold (·.slot = some i) b h

/-- In an account whose pairs are in order the ACTIVE transactions that name a slot are as many as the exchanges that serve them. -/
theorem Paired.card_active {A : Account} (h : A.Paired) (i : SlotNo) :
    (Finset.univ.filter fun t => A.stake t = .active (some i)).card =
      (Finset.univ.filter fun b => ∃ t, A.hold b = .serves t (some i)).card := by
  classical
  refine (Finset.card_bij (fun b hb => (Finset.mem_filter.1 hb).2.choose) (fun b hb => ?_) (fun b hb d hd heq => ?_)
    fun t ht => ?_).symm
  · exact Finset.mem_filter.2 ⟨Finset.mem_univ _, h.serves b _ _ (Finset.mem_filter.1 hb).2.choose_spec⟩
  · have hd' := (Finset.mem_filter.1 hd).2.choose_spec
    rw [← heq] at hd'
    exact h.once b d _ _ (Finset.mem_filter.1 hb).2.choose_spec hd'
  · obtain ⟨b, hb⟩ := h.served t _ (Finset.mem_filter.1 ht).2
    have hmem : b ∈ Finset.univ.filter fun b => ∃ t, A.hold b = .serves t (some i) :=
      Finset.mem_filter.2 ⟨Finset.mem_univ _, t, hb⟩
    refine ⟨b, hmem, ?_⟩
    have hchosen := hb.symm.trans (Finset.mem_filter.1 hmem).2.choose_spec
    exact (Hold.serves.inj hchosen).1.symm

/-- The references that the rules count are those that the account counts (R40). -/
theorem Paired.card_names {A : Account} (h : A.Paired) (i : SlotNo) :
    (Finset.univ.filter fun t => A.stake t = .queued (some i) ∨ A.stake t = .active (some i)).card +
      (Finset.univ.filter fun b => A.hold b = .orphan (some i)).card = A.queued i + A.held i := by
  have hheld : A.held i = (Finset.univ.filter fun b => ∃ t, A.hold b = .serves t (some i)).card +
      (Finset.univ.filter fun b => A.hold b = .orphan (some i)).card := by
    rw [held, ← Finset.card_union_of_disjoint (Finset.disjoint_filter.2 fun b _ ⟨t, ht⟩ => by simp [ht]), ← Finset.filter_or]
    congr 1
    refine Finset.filter_congr fun b _ => ?_
    cases hb : A.hold b with
    | other o => simp [Hold.slot, h.other b o hb]
    | _ => simp [Hold.slot]
  rw [hheld, ← h.card_active, Finset.filter_or,
    Finset.card_union_of_disjoint (Finset.disjoint_filter.2 fun t _ ht => by simp [ht]), queued]
  omega

/-! ## How an agreeing account changes -/

/-- The stake of a tag that no exchange serves may change to one that asks for no exchange. -/
theorem Paired.setStake {A : Account} (h : A.Paired) {t : Tag} {k : Stake} (ht : ∀ o, A.stake t ≠ .active o)
    (hk : ∀ o, k ≠ .active o) : (A.setStake t k).Paired where
  served v o hv := by
    by_cases hvt : v = t
    · subst hvt
      exact absurd (by simpa using hv) (hk o)
    · exact h.served v o (by rwa [setStake_stake_ne _ _ hvt] at hv)
  serves b v o hb := by
    have hv : A.stake v = .active o := h.serves b v o hb
    have hvt : v ≠ t := fun heq => ht o (heq ▸ hv)
    rw [setStake_stake_ne _ _ hvt, hv]
  once := h.once
  other := h.other

/-- A transaction with nothing at stake enters a Branch Queue with a reference (R14, R40). -/
theorem Agrees.enqueue {A : Account} (h : A.Agrees) {t : Tag} (ht : A.stake t = .nothing) (i : SlotNo) :
    (A.enqueue t i).Agrees where
  paired := Paired.setStake (A := A.setRefs i (A.refs i + 1)) ⟨h.paired.served, h.paired.serves, h.paired.once, h.paired.other⟩ (by simp [ht]) (by simp)
  counted j := by
    have hcount := queued_setStake A t (.queued (some i)) j
    have hold := h.counted j
    have hheld : (A.enqueue t i).held j = A.held j := rfl
    have hqueued : (A.enqueue t i).queued j = (A.setStake t (.queued (some i))).queued j := rfl
    rw [hqueued, hheld]
    by_cases hji : j = i
    · subst hji
      simp [Account.enqueue, setRefs, ht] at hcount ⊢
      omega
    · simp [Account.enqueue, setRefs, ht, hji, Ne.symm hji] at hcount ⊢
      omega

/-- A QUEUED transaction gives up its reference (R17, R41). -/
theorem Agrees.dequeue {A : Account} (h : A.Agrees) {t : Tag} {o : Option SlotNo} (ht : A.stake t = .queued o) :
    ((A.release o).setStake t .nothing).Agrees where
  paired := Paired.setStake (A := A.release o) ⟨h.paired.served, h.paired.serves, h.paired.once, h.paired.other⟩ (by simp [ht]) (by simp)
  counted j := by
    have hcount := queued_setStake A t .nothing j
    have hold := h.counted j
    have hheld : ((A.release o).setStake t .nothing).held j = A.held j := rfl
    have hqueued : ((A.release o).setStake t .nothing).queued j = (A.setStake t .nothing).queued j := rfl
    rw [hqueued, hheld]
    simp only [ht, Stake.queued.injEq, reduceCtorEq, if_false] at hcount
    simp only [setStake_refs, Account.release]
    omega

/-- A hold other than the one just written was there before, at another port. -/
theorem hold_of_setHold {A : Account} {b d : Branch} {x y : Hold} (h : (A.setHold b x).hold d = y) (hne : x ≠ y) :
    d ≠ b ∧ A.hold d = y := by
  by_cases hdb : d = b
  · subst hdb
    exact absurd (by simpa using h) hne
  · exact ⟨hdb, by rwa [setHold_hold_ne _ _ hdb] at h⟩

theorem held_cleared (A : Account) (b : Branch) (j : SlotNo) :
    (A.setHold b .nothing).held j + (if (A.hold b).slot = some j then 1 else 0) = A.held j :=
  held_setHold A b .nothing j

/-- The pairs stay in order when a port gives up its exchange, and with it the tag that the exchange served has nothing more at stake. -/
theorem Paired.clear {A B : Account} (h : A.Paired) {b : Branch} (hhold : B.hold = (A.setHold b .nothing).hold)
    (hserved : ∀ t o, A.hold b = .serves t o → B.stake t = .nothing)
    (hstake : ∀ t, B.stake t = A.stake t ∨ B.stake t = .nothing ∧ ∃ o, A.hold b = .serves t o) : B.Paired where
  served t o ht := by
    rcases hstake t with heq | ⟨hnothing, -⟩
    · obtain ⟨d, hd⟩ := h.served t o (heq ▸ ht)
      have hdb : d ≠ b := fun heq' => by simp [hserved t o (heq' ▸ hd)] at ht
      exact ⟨d, by rw [hhold, setHold_hold_ne _ _ hdb, hd]⟩
    · simp [hnothing] at ht
  serves d t o hd := by
    obtain ⟨hdb, hd⟩ := hold_of_setHold (hhold ▸ hd) (by simp)
    have ht : A.stake t = .active o := h.serves d t o hd
    rcases hstake t with heq | ⟨-, o', hb⟩
    · rw [heq, ht]
    · obtain rfl : o = o' := by simpa [ht] using h.serves b t o' hb
      exact absurd (h.once d b t o hd hb) hdb
  once d d' t o hd hd' :=
    h.once d d' t o (hold_of_setHold (hhold ▸ hd) (by simp)).2 (hold_of_setHold (hhold ▸ hd') (by simp)).2
  other d o hd := h.other d o (hold_of_setHold (hhold ▸ hd) (by simp)).2

/-- The exchange of a port that serves nobody ends: its reference, if it has one, is released (R90). -/
theorem Agrees.clear {A : Account} (h : A.Agrees) {b : Branch} (hb : ∀ t o, A.hold b ≠ .serves t o) :
    ((A.release (A.hold b).slot).setHold b .nothing).Agrees where
  paired := h.paired.clear (b := b) rfl (fun t o ht => absurd ht (hb t o)) fun t => .inl rfl
  counted j := by
    have hold := h.counted j
    have hheld := held_cleared A b j
    have hheld' : ((A.release (A.hold b).slot).setHold b .nothing).held j = (A.setHold b .nothing).held j := rfl
    have hqueued : ((A.release (A.hold b).slot).setHold b .nothing).queued j = A.queued j := rfl
    rw [hqueued, hheld']
    simp only [setHold_refs, Account.release]
    omega

/-- The exchange of a port that serves an ACTIVE transaction ends with it: its reference is released (R17, R77). -/
theorem Agrees.finish {A : Account} (h : A.Agrees) {b : Branch} {t : Tag} {o : Option SlotNo}
    (hb : A.hold b = .serves t o) : (((A.release o).setStake t .nothing).setHold b .nothing).Agrees where
  paired := by
    refine h.paired.clear (b := b) rfl (fun v p hv => ?_) fun v => ?_
    · obtain ⟨rfl, -⟩ := Hold.serves.inj (hb.symm.trans hv)
      simp
    · by_cases hvt : v = t
      · subst hvt
        exact .inr ⟨by simp, o, hb⟩
      · exact .inl (setStake_stake_ne (A.release o) _ hvt)
  counted j := by
    have hold := h.counted j
    have hstake : A.stake t = .active o := h.paired.serves b t o hb
    have hqueue := queued_setStake A t .nothing j
    have hheld := held_cleared A b j
    have hheld' : (((A.release o).setStake t .nothing).setHold b .nothing).held j = (A.setHold b .nothing).held j := rfl
    have hqueued : (((A.release o).setStake t .nothing).setHold b .nothing).queued j = (A.setStake t .nothing).queued j := rfl
    rw [hqueued, hheld']
    simp only [hstake, hb, Hold.slot, reduceCtorEq, if_false] at hqueue hheld
    simp only [setHold_refs, setStake_refs, Account.release]
    omega

/-- The head of a queue becomes the exchange of its idle port: the reference passes to the exchange (R72, R73). -/
theorem Agrees.take {A : Account} (h : A.Agrees) {b : Branch} {t : Tag} {o : Option SlotNo} (hb : A.hold b = .nothing)
    (ht : A.stake t = .queued o) : ((A.setStake t (.active o)).setHold b (.serves t o)).Agrees where
  paired := by
    have hnew : ∀ {d p}, ((A.setStake t (.active o)).setHold b (.serves t o)).hold d = .serves t p → d = b := fun {d p} hd => by
      by_contra hdb
      rw [setHold_hold_ne _ _ hdb] at hd
      simpa [ht] using h.paired.serves d t p hd
    have hold : ∀ {d v p}, ((A.setStake t (.active o)).setHold b (.serves t o)).hold d = .serves v p → v ≠ t →
        A.hold d = .serves v p := fun {d v p} hd hvt =>
      (hold_of_setHold hd fun heq => hvt (Hold.serves.inj heq).1.symm).2
    refine ⟨fun v p hv => ?_, fun d v p hd => ?_, fun d d' v p hd hd' => ?_, fun d p hd => ?_⟩
    · by_cases hvt : v = t
      · subst hvt
        obtain rfl : o = p := by simpa using hv
        exact ⟨b, by simp⟩
      · rw [setHold_stake, setStake_stake_ne _ _ hvt] at hv
        obtain ⟨d, hd⟩ := h.paired.served v p hv
        have hdb : d ≠ b := fun heq => by simp [heq ▸ hd] at hb
        exact ⟨d, by rwa [setHold_hold_ne _ _ hdb]⟩
    · by_cases hvt : v = t
      · subst hvt
        obtain rfl := hnew hd
        simpa using hd
      · rw [setHold_stake, setStake_stake_ne _ _ hvt]
        exact h.paired.serves d v p (hold hd hvt)
    · by_cases hvt : v = t
      · subst hvt
        rw [hnew hd, hnew hd']
      · exact h.paired.once d d' v p (hold hd hvt) (hold hd' hvt)
    · exact h.paired.other d p (hold_of_setHold hd (by simp)).2
  counted j := by
    have hold := h.counted j
    have hqueue := queued_setStake A t (.active o) j
    have hhold := held_setHold A b (.serves t o) j
    have hheld : ((A.setStake t (.active o)).setHold b (.serves t o)).held j = (A.setHold b (.serves t o)).held j := rfl
    have hqueued : ((A.setStake t (.active o)).setHold b (.serves t o)).queued j = (A.setStake t (.active o)).queued j := rfl
    rw [hqueued, hheld]
    simp only [ht, hb, Hold.slot, Stake.queued.injEq, reduceCtorEq, if_false] at hqueue hhold
    simp only [setHold_refs, setStake_refs]
    by_cases ho : o = some j
    · subst ho
      simp only [if_true] at hqueue hhold
      omega
    · simp only [ho, if_false] at hqueue hhold
      omega

/-- An exchange that has no right to a reference begins at an idle port and names no slot (R73, R88). -/
theorem Agrees.takeOther {A : Account} (h : A.Agrees) {b : Branch} (hb : A.hold b = .nothing) :
    (A.setHold b (.other none)).Agrees where
  paired := by
    refine ⟨fun v p hv => ?_, fun d v p hd => ?_, fun d d' v p hd hd' => ?_, fun d p hd => ?_⟩
    · obtain ⟨d, hd⟩ := h.paired.served v p hv
      have hdb : d ≠ b := fun heq => by simp [heq ▸ hd] at hb
      exact ⟨d, by rwa [setHold_hold_ne _ _ hdb]⟩
    · exact h.paired.serves d v p (hold_of_setHold hd (by simp)).2
    · exact h.paired.once d d' v p (hold_of_setHold hd (by simp)).2 (hold_of_setHold hd' (by simp)).2
    · by_cases hdb : d = b
      · subst hdb; simpa using hd.symm
      · exact h.paired.other d p (by rwa [setHold_hold_ne _ _ hdb] at hd)
  counted j := by
    have hold := h.counted j
    have hhold := held_setHold A b (.other none) j
    have hqueued : (A.setHold b (.other none)).queued j = A.queued j := rfl
    simp only [hb, Hold.slot, reduceCtorEq, if_false] at hhold
    rw [hqueued, setHold_refs]
    omega

/-- An account in which no tag has anything at stake and every exchange is an orphan agrees when the orphans are counted. -/
theorem agrees_of_orphans {A : Account} (hstake : ∀ t, A.stake t = .nothing)
    (hhold : ∀ b, A.hold b = .nothing ∨ ∃ o, A.hold b = .orphan o) (hcounted : ∀ i, A.refs i = A.held i) : A.Agrees where
  paired := by
    refine ⟨fun t o ht => ?_, fun b t o hb => ?_, fun b d t o hb _ => ?_, fun b o hb => ?_⟩
    · simp [hstake t] at ht
    all_goals rcases hhold b with h | ⟨p, h⟩ <;> simp [h] at hb
  counted i := by
    have hqueued : A.queued i = 0 := by simp [queued, hstake]
    rw [hqueued, Nat.zero_add, hcounted]

end Account
end Sys2Proof.Machine
end

section
/-!
The account of a state: `ReferencesHeld` says that it agrees, and what each shared operation does to it.
-/

namespace Sys2Proof.Machine

/-! ## What the stake and the hold say -/

theorem stake_eq_queued_iff (r : TagRecord) (o : Option SlotNo) : r.stake = .queued o ↔ r.state = .queued ∧ r.slot = o := by
  unfold TagRecord.stake
  cases r.state <;> simp

theorem stake_eq_active_iff (r : TagRecord) (o : Option SlotNo) : r.stake = .active o ↔ r.state = .active ∧ r.slot = o := by
  unfold TagRecord.stake
  cases r.state <;> simp

/-- A record that is neither QUEUED nor ACTIVE has nothing at stake. -/
theorem stake_of_state {s : State} {t : Tag} {x : TagState} (h : (s.tag t).state = x) (hqueued : x ≠ .queued)
    (hactive : x ≠ .active) : s.account.stake t = .nothing := by
  show (s.tag t).stake = .nothing
  unfold TagRecord.stake
  rw [h]
  split <;> simp_all

theorem names_iff (r : TagRecord) (i : SlotNo) :
    r.names i = true ↔ r.stake = .queued (some i) ∨ r.stake = .active (some i) := by
  simp [TagRecord.names, stake_eq_queued_iff, stake_eq_active_iff, or_and_right]

theorem hold_eq_serves_iff (x : Exchange) (t : Tag) (o : Option SlotNo) :
    x.hold = .serves t o ↔ x.orphan = false ∧ x.kind = .unit ∧ x.tag = some t ∧ x.slot = o := by
  unfold Exchange.hold
  cases x.orphan <;> cases x.kind <;> cases x.tag <;> simp

theorem hold_eq_orphan_iff (x : Exchange) (o : Option SlotNo) : x.hold = .orphan o ↔ x.orphan = true ∧ x.slot = o := by
  unfold Exchange.hold
  cases x.orphan <;> cases x.kind <;> cases x.tag <;> simp

theorem hold_eq_other_iff (x : Exchange) (o : Option SlotNo) :
    x.hold = .other o ↔ x.orphan = false ∧ (∀ t, x.kind = .unit → x.tag ≠ some t) ∧ x.slot = o := by
  unfold Exchange.hold
  cases x.orphan <;> cases x.kind <;> cases x.tag <;> simp

theorem slot_hold (x : Exchange) : x.hold.slot = x.slot := by
  unfold Exchange.hold
  split
  · rfl
  · split <;> rfl

theorem portHold_of_current {p : BranchPort} {x : Exchange} (h : p.exchange.current = some x) : p.hold = x.hold := by
  simp [BranchPort.hold, h]

theorem portHold_of_idle {p : BranchPort} (h : p.exchange = .idle) : p.hold = .nothing := by
  simp [BranchPort.hold, h, ExchangeState.current]

/-- A port that has to do with a reference has an exchange. -/
theorem current_of_portHold {p : BranchPort} (h : p.hold ≠ .nothing) :
    ∃ x, p.exchange.current = some x ∧ x.hold = p.hold := by
  unfold BranchPort.hold at h ⊢
  cases hx : p.exchange.current with
  | none => simp [hx] at h
  | some x => exact ⟨x, rfl, rfl⟩

theorem orphanNames_iff (p : BranchPort) (i : SlotNo) : p.orphanNames i = true ↔ p.hold = .orphan (some i) := by
  unfold BranchPort.orphanNames BranchPort.hold
  cases p.exchange.current with
  | none => simp
  | some x => simp [hold_eq_orphan_iff]

/-! ## ReferencesHeld and the account -/

/-- An exchange that serves a unit transaction runs at the branch of the transaction, which is ACTIVE. -/
theorem fits_of_serves {s : State} (h : s.ledger.Agrees) {b : Branch} {t : Tag} {o : Option SlotNo}
    (hb : (s.port b).hold = .serves t o) : (Role.atPort b .unit true).fits (s.tag t) := by
  obtain ⟨x, hx, hhold⟩ := current_of_portHold (by rw [hb]; simp)
  obtain ⟨horphan, hkind, htag, -⟩ := (hold_eq_serves_iff x t o).1 (hhold.trans hb)
  have hmem : Claim.mk t (.atPort b .unit true) ∈ s.ledger.claims (.port b) := by
    rw [ledger_claims_port, BranchPort.claims, exchangeClaims_of_current b hx]
    exact Multiset.mem_add.2 (.inr (by simp [Exchange.claims, horphan, htag, hkind]))
  exact (h (.port b)).2 _ hmem

theorem exchangesNameSlots_iff {s : State} (h : s.ledger.Agrees) : ExchangesNameSlots s ↔ s.account.Paired := by
  constructor
  · rintro ⟨hserved, hnames⟩
    have hserves : ∀ b t o, (s.port b).hold = .serves t o → (s.tag t).stake = .active o := fun b t o hb => by
      obtain ⟨x, hx, hhold⟩ := current_of_portHold (by rw [hb]; simp)
      obtain ⟨horphan, hkind, htag, rfl⟩ := (hold_eq_serves_iff x t o).1 (hhold.trans hb)
      have hslot := hnames b x hx horphan
      simp only [hkind, htag] at hslot
      exact (stake_eq_active_iff _ _).2 ⟨(fits_of_serves h hb).1, hslot.symm⟩
    refine ⟨fun t o ht => ?_, hserves, fun b d t o hb hd => ?_, fun b o hb => ?_⟩
    · obtain ⟨b, x, hx, horphan, hkind, htag⟩ := hserved t ((stake_eq_active_iff _ _).1 ht).1
      have hhold : (s.port b).hold = .serves t x.slot :=
        (portHold_of_current hx).trans ((hold_eq_serves_iff _ _ _).2 ⟨horphan, hkind, htag, rfl⟩)
      have hstake := (hserves b t _ hhold).symm.trans ht
      exact ⟨b, hhold.trans (by rw [Stake.active.inj hstake])⟩
    · have hbranch := (fits_of_serves h hb).2.symm.trans (fits_of_serves h hd).2
      exact Option.some.inj hbranch
    · have hb : (s.port b).hold = .other o := hb
      obtain ⟨x, hx, hhold⟩ := current_of_portHold (by rw [hb]; simp)
      obtain ⟨horphan, hnot, rfl⟩ := (hold_eq_other_iff x o).1 (hhold.trans hb)
      have hslot := hnames b x hx horphan
      split at hslot
      case h_1 hkind htag => exact absurd htag (hnot _ hkind)
      case h_2 => exact hslot
  · intro hpaired
    refine ⟨fun t ht => ?_, fun b x hx horphan => ?_⟩
    · obtain ⟨b, hb⟩ := hpaired.served t (s.tag t).slot ((stake_eq_active_iff _ _).2 ⟨ht, rfl⟩)
      obtain ⟨x, hx, hhold⟩ := current_of_portHold (p := s.port b) (by rw [show (s.port b).hold = _ from hb]; simp)
      obtain ⟨horphan, hkind, htag, -⟩ := (hold_eq_serves_iff _ _ _).1 (hhold.trans hb)
      exact ⟨b, x, hx, horphan, hkind, htag⟩
    · have hhold : s.account.hold b = x.hold := portHold_of_current hx
      split
      case h_1 t hkind htag =>
        have hserves := hhold.trans ((hold_eq_serves_iff x t x.slot).2 ⟨horphan, hkind, htag, rfl⟩)
        exact ((stake_eq_active_iff _ _).1 (hpaired.serves b t _ hserves)).2.symm
      case h_2 hnot =>
        exact hpaired.other b x.slot
          (hhold.trans ((hold_eq_other_iff x x.slot).2 ⟨horphan, fun t hkind => hnot t hkind, rfl⟩))

/-- Where every tag is held as its record says, the references are held exactly when the account agrees. -/
theorem referencesHeld_iff_agrees {s : State} (h : s.ledger.Agrees) : ReferencesHeld s ↔ s.account.Agrees := by
  have hcount : s.account.Paired → ∀ i,
      ((List.finRange 16).filter fun t => (s.tag t).names i).length +
        ((List.finRange 4).filter fun b => (s.port b).orphanNames i).length = s.account.queued i + s.account.held i := by
    intro hpaired i
    rw [← hpaired.card_names i, length_filter_finRange, length_filter_finRange]
    simp only [names_iff, orphanNames_iff]
    rfl
  constructor
  · rintro ⟨hnames, hcounted⟩
    have hpaired := (exchangesNameSlots_iff h).1 hnames
    exact ⟨hpaired, fun i => (hcounted i).trans (hcount hpaired i)⟩
  · rintro ⟨hpaired, hcounted⟩
    exact ⟨(exchangesNameSlots_iff h).2 hpaired, fun i => (hcounted i).trans (hcount hpaired i).symm⟩

/-! ## The account after the updates of State -/

@[simp] theorem account_setTag (s : State) (t : Tag) (r : TagRecord) :
    (s.setTag t r).account = s.account.setStake t r.stake := by
  ext v
  · rfl
  · by_cases hvt : v = t
    · subst hvt; simp [State.account]
    · simp [State.account, Account.setStake, tag_setTag, hvt]
  · rfl

@[simp] theorem account_setSlot (s : State) (i : SlotNo) (c : CacheSlot) :
    (s.setSlot i c).account = s.account.setRefs i c.refs := by
  ext j
  · by_cases hji : j = i
    · subst hji; simp [State.account, Account.setRefs]
    · simp [State.account, Account.setRefs, slot_setSlot, hji]
  · rfl
  · rfl

@[simp] theorem account_setPort (s : State) (b : Branch) (p : BranchPort) :
    (s.setPort b p).account = s.account.setHold b p.hold := by
  ext d
  · rfl
  · rfl
  · by_cases hdb : d = b
    · subst hdb; simp [State.account]
    · simp [State.account, Account.setHold, port_setPort, hdb]

theorem account_stake (s : State) (t : Tag) : s.account.stake t = (s.tag t).stake := rfl
theorem account_hold (s : State) (b : Branch) : s.account.hold b = (s.port b).hold := rfl
theorem account_refs (s : State) (i : SlotNo) : s.account.refs i = (s.slot i).refs := rfl

/-- A record that changes but keeps its stake. -/
theorem account_setTag_of_stake {s : State} {t : Tag} {r : TagRecord} (h : r.stake = (s.tag t).stake) :
    (s.setTag t r).account = s.account := by
  rw [account_setTag, h, ← account_stake, Account.setStake_self]

/-- A slot that changes but keeps its references. -/
theorem account_setSlot_of_refs {s : State} {i : SlotNo} {c : CacheSlot} (h : c.refs = (s.slot i).refs) :
    (s.setSlot i c).account = s.account := by
  rw [account_setSlot, h, ← account_refs, Account.setRefs_self]

/-- A port that changes but keeps its hold. -/
theorem account_setPort_of_hold {s : State} {b : Branch} {p : BranchPort} (h : p.hold = (s.port b).hold) :
    (s.setPort b p).account = s.account := by
  rw [account_setPort, h, ← account_hold, Account.setHold_self]

/-- States that differ in nothing that has to do with references have the same account. -/
theorem account_congr {s s' : State} (hrefs : ∀ i, (s'.slot i).refs = (s.slot i).refs)
    (hstake : ∀ t, (s'.tag t).stake = (s.tag t).stake) (hhold : ∀ b, (s'.port b).hold = (s.port b).hold) :
    s'.account = s.account := by
  ext x
  · exact hrefs x
  · rw [account_stake, hstake, ← account_stake]
  · rw [account_hold, hhold, ← account_hold]

theorem account_of_blocks {s s' : State} (hdsp : s'.dsp = s.dsp) (hrc : s'.rc = s.rc) (hports : s'.ports = s.ports) :
    s'.account = s.account :=
  account_congr (fun i => by rw [State.slot, hrc, State.slot]) (fun t => by rw [State.tag, hdsp, State.tag])
    fun b => by rw [State.port, hports, State.port]

@[simp] theorem account_setRecency (s : State) (l : List SlotNo) : (s.setRecency l).account = s.account := rfl
@[simp] theorem account_touch (i : SlotNo) (s : State) : (touch i s).account = s.account := rfl
@[simp] theorem account_leaveRecency (i : SlotNo) (s : State) : (leaveRecency i s).account = s.account := rfl
@[simp] theorem account_count (c : Counter) (s : State) : (count c s).account = s.account := rfl
@[simp] theorem account_recordFault (r : FaultRecord) (s : State) : (recordFault r s).account = s.account := rfl
@[simp] theorem account_appendReply (r : Response) (s : State) : (appendReply r s).account = s.account := rfl
@[simp] theorem account_withdrawFill (i : SlotNo) (s : State) : (withdrawFill i s).account = s.account := rfl
@[simp] theorem account_latchPortShut (s : State) : (latchPortShut s).account = s.account := rfl
@[simp] theorem account_dropManagementHead (s : State) : (dropManagementHead s).account = s.account := rfl
@[simp] theorem account_drainReport (s : State) : (drainReport s).account = s.account := by
  apply account_of_blocks <;> simp
@[simp] theorem account_judgeFill (i : SlotNo) (u : Byte) (s : State) : (judgeFill i u s).account = s.account := by
  apply account_of_blocks <;> simp
@[simp] theorem account_settle (s : State) : (settle s).account = s.account := by apply account_of_blocks <;> simp
@[simp] theorem account_fillFault (k : FaultKind) (u : Byte) (w : List Tag) (s : State) :
    (fillFault k u w s).account = s.account := by apply account_of_blocks <;> simp
@[simp] theorem account_recordEndFault (t : Tag) (o : OutcomeCode) (s : State) :
    (recordEndFault t o s).account = s.account := by apply account_of_blocks <;> simp
@[simp] theorem account_statusUpdate (t : Tag) (o : OutcomeCode) (st : Option Byte) (w : Bool) (s : State) :
    (statusUpdate t o st w s).account = s.account := by apply account_of_blocks <;> simp

/-- A transaction that ends has nothing more at stake (R20). -/
@[simp] theorem account_endTransaction (t : Tag) (o : OutcomeCode) (st : Option Byte) (w : Bool) (p : List Byte) (s : State) :
    (endTransaction t o st w p s).account = s.account.setStake t .nothing := by
  simp [endTransaction, TagRecord.stake]

@[simp] theorem account_endPlain (t : Tag) (o : OutcomeCode) (s : State) :
    (endPlain t o s).account = s.account.setStake t .nothing := account_endTransaction ..

@[simp] theorem account_reply (t : Tag) (c : ResultCode) (d : List Byte) (s : State) :
    (reply t c d s).account = s.account.setStake t .nothing := by
  simp [reply]

/-! ## References (R40 to R42) -/

/-- A reference taken on a VALID slot is counted (R40). -/
theorem account_takeReference {i : SlotNo} {s : State} (h : (s.slot i).isValid = true) :
    (takeReference i s).account = s.account.setRefs i (s.account.refs i + 1) := by
  unfold takeReference
  split
  case h_1 hslot => rw [account_setSlot, account_refs, hslot]; rfl
  case h_2 hslot =>
    cases hs : s.slot i with
    | valid u r n => exact absurd hs (hslot u r n)
    | _ => simp [hs, CacheSlot.isValid] at h

/-- A reference released is no longer counted (R41). -/
@[simp] theorem account_releaseSlot (o : Option SlotNo) (s : State) : (releaseSlot o s).account = s.account.release o := by
  cases o with
  | none => simp [releaseSlot]
  | some i =>
    have hset : ∀ n, n = (s.slot i).refs - 1 → s.account.setRefs i n = s.account.release (some i) := by
      intro n hn
      ext j
      · by_cases hji : j = i
        · subst hji; simp [Account.setRefs, Account.release, account_refs, hn]
        · simp [Account.setRefs, Account.release, hji, Ne.symm hji]
      · rfl
      · rfl
    simp only [releaseSlot, releaseReference]
    split
    case h_1 hslot => rw [account_setSlot, hset _ (by rw [hslot]; rfl)]
    case h_2 n hslot =>
      split
      case isTrue hn => rw [account_drainReport, account_setSlot, hset _ (by rw [hslot]; exact (Nat.sub_eq_zero_of_le hn).symm)]
      case isFalse => rw [account_setSlot, hset _ (by rw [hslot]; rfl)]
    case h_3 hvalid hstale =>
      have hzero : (s.slot i).refs = 0 := by
        cases hs : s.slot i with
        | valid u r n => exact absurd hs (hvalid u r n)
        | stale u r n => exact absurd hs (hstale u r n)
        | _ => rfl
      rw [← hset 0 (by rw [hzero]), ← hzero, ← account_refs, Account.setRefs_self]

/-- An invalidation takes and releases no reference (R42). -/
@[simp] theorem account_invalidateSlot (i : SlotNo) (s : State) : (invalidateSlot i s).account = s.account := by
  unfold invalidateSlot
  split
  case h_1 hslot =>
    split
    case isTrue hn =>
      exact (account_setSlot_of_refs (by simp [leaveRecency, hslot, hn, CacheSlot.refs])).trans (account_leaveRecency i s)
    case isFalse =>
      exact (account_setSlot_of_refs (by simp [leaveRecency, hslot, CacheSlot.refs])).trans (account_leaveRecency i s)
  case h_2 hslot => exact account_setSlot_of_refs (by simp [hslot, CacheSlot.refs])
  case h_3 => rfl

@[simp] theorem account_performInvalidation (d : Descriptor) (s : State) :
    (performInvalidation d s).account = s.account := by
  have hunit : ∀ (s : State) (u : Byte), (invalidateUnit u s).account = s.account := fun s u => by
    unfold invalidateUnit
    split <;> simp
  unfold performInvalidation invalidateAll
  split
  · exact foldl_keeps _ State.account (fun s i => account_invalidateSlot i s) _ _
  · exact foldl_keeps _ State.account hunit _ _

end Sys2Proof.Machine
end

section
/-!
The Route Cache stays sound (R27, R33, R40): how a slot and the recency order may change, and that every operation on the slots changes them so.
-/

namespace Sys2Proof.Machine

/-! ## How a sound cache may change -/

/-- A slot and the recency order change: the slot matches only units that no other slot matches, and the order holds the slot exactly when it is VALID. -/
theorem cacheSound_set {s : State} (h : CacheSound s.rc) {i : SlotNo} {c : CacheSlot} {l : List SlotNo}
    (hmatch : ∀ u, c.matchesUnit u = true → ∀ j, j ≠ i → (s.slot j).matchesUnit u = false) (hnodup : l.Nodup)
    (hmem : ∀ j, j ∈ l ↔ if j = i then c.isValid = true else j ∈ s.rc.recency)
    (hstale : c.isStale = true → 1 ≤ c.refs) : CacheSound ((s.setRecency l).setSlot i c).rc := by
  obtain ⟨hunique, -, hvalid, hrefs⟩ := h
  have hslot : ∀ j : SlotNo, ((s.setRecency l).setSlot i c).rc.slots[j.val] = if j = i then c else s.slot j := fun j =>
    slot_setSlot (s.setRecency l) i j c
  refine ⟨fun j k hjk u hj => ?_, hnodup, fun j => ?_, fun j hj => ?_⟩
  · rw [hslot] at hj ⊢
    by_cases hji : j = i
    · subst hji
      rw [if_neg (Ne.symm hjk)]
      exact hmatch u (by simpa using hj) k (Ne.symm hjk)
    · rw [if_neg hji] at hj
      by_cases hki : k = i
      · subst hki
        rw [if_pos rfl]
        by_contra hne
        simp [hmatch u (by simpa using hne) j hji] at hj
      · rw [if_neg hki]
        exact hunique j k hjk u hj
  · rw [hslot]
    refine (hmem j).trans ?_
    split
    · rfl
    · exact hvalid j
  · rw [hslot] at hj ⊢
    split at hj
    · rename_i hji
      rw [if_pos hji]
      exact hstale hj
    · rename_i hji
      rw [if_neg hji]
      exact hrefs j hj

/-- A slot that changes matches the same units or fewer, and is VALID exactly when it was. -/
theorem cacheSound_setSlot {s : State} (h : CacheSound s.rc) {i : SlotNo} {c : CacheSlot}
    (hmatch : ∀ u, c.matchesUnit u = true → (s.slot i).matchesUnit u = true) (hvalid : c.isValid = (s.slot i).isValid)
    (hstale : c.isStale = true → 1 ≤ c.refs) : CacheSound (s.setSlot i c).rc := by
  refine cacheSound_set h (l := s.rc.recency) (fun u hu j hj => h.1 i j hj.symm u (hmatch u hu)) h.2.1 (fun j => ?_) hstale
  split
  case isTrue hji =>
    subst hji
    rw [hvalid]
    exact h.2.2.1 j
  case isFalse => rfl

/-- A slot becomes one that is not VALID and leaves the recency order. -/
theorem cacheSound_leave {s : State} (h : CacheSound s.rc) {i : SlotNo} {c : CacheSlot}
    (hmatch : ∀ u, c.matchesUnit u = true → ∀ j, j ≠ i → (s.slot j).matchesUnit u = false) (hvalid : c.isValid = false)
    (hstale : c.isStale = true → 1 ≤ c.refs) : CacheSound ((leaveRecency i s).setSlot i c).rc := by
  refine cacheSound_set h hmatch (h.2.1.filter _) (fun j => ?_) hstale
  by_cases hji : j = i
  · simp [hji, hvalid]
  · simp [hji]

/-- A slot becomes VALID, or stays it, and is the most recent (R33). -/
theorem cacheSound_touch {s : State} (h : CacheSound s.rc) {i : SlotNo} {c : CacheSlot}
    (hmatch : ∀ u, c.matchesUnit u = true → (s.slot i).matchesUnit u = true) (hvalid : c.isValid = true) :
    CacheSound (touch i (s.setSlot i c)).rc := by
  refine cacheSound_set (l := i :: s.rc.recency.filter (· ≠ i)) h (fun u hu j hj => h.1 i j hj.symm u (hmatch u hu))
    (List.nodup_cons.2 ⟨by simp, h.2.1.filter _⟩) (fun j => ?_) fun hstale => ?_
  · by_cases hji : j = i
    · simp [hji, hvalid]
    · simp [hji]
  · cases c <;> simp [CacheSlot.isValid, CacheSlot.isStale] at hvalid hstale

/-- Caches whose slots agree in what soundness asks of them, with one recency order. -/
theorem cacheSound_congr {c d : RouteCache} (h : CacheSound c) (hrecency : d.recency = c.recency)
    (hmatch : ∀ (i : SlotNo) u, d.slots[i.val].matchesUnit u = c.slots[i.val].matchesUnit u)
    (hvalid : ∀ i : SlotNo, d.slots[i.val].isValid = c.slots[i.val].isValid)
    (hstale : ∀ i : SlotNo, d.slots[i.val].isStale = true → c.slots[i.val].isStale = true ∧ d.slots[i.val].refs = c.slots[i.val].refs) :
    CacheSound d := by
  obtain ⟨hunique, hnodup, hmem, hrefs⟩ := h
  refine ⟨fun i j hij u hi => ?_, hrecency ▸ hnodup, fun i => ?_, fun i hi => ?_⟩
  · rw [hmatch] at hi ⊢
    exact hunique i j hij u hi
  · rw [hrecency, hvalid]
    exact hmem i
  · obtain ⟨hold, heq⟩ := hstale i hi
    rw [heq]
    exact hrefs i hold

/-! ## References and invalidations (R40 to R42) -/

theorem cacheSound_takeReference {s : State} (h : CacheSound s.rc) (i : SlotNo) : CacheSound (takeReference i s).rc := by
  unfold takeReference
  split
  case h_1 hslot =>
    exact cacheSound_setSlot h (by simp [hslot, CacheSlot.matchesUnit]) (by rw [hslot]; rfl) (by simp [CacheSlot.isStale])
  case h_2 => exact h

theorem cacheSound_releaseReference {s : State} (h : CacheSound s.rc) (i : SlotNo) :
    CacheSound (releaseReference i s).rc := by
  unfold releaseReference
  split
  case h_1 hslot =>
    exact cacheSound_setSlot h (by simp [hslot, CacheSlot.matchesUnit]) (by rw [hslot]; rfl) (by simp [CacheSlot.isStale])
  case h_2 n hslot =>
    split
    case isTrue =>
      simp only [drainReport_frame]
      exact cacheSound_setSlot h (by simp [CacheSlot.matchesUnit]) (by rw [hslot]; rfl) (by simp [CacheSlot.isStale])
    case isFalse hn =>
      exact cacheSound_setSlot h (by simp [CacheSlot.matchesUnit]) (by rw [hslot]; rfl)
        fun _ => Nat.le_sub_of_add_le (by omega)
  case h_3 => exact h

theorem cacheSound_releaseSlot {s : State} (h : CacheSound s.rc) (o : Option SlotNo) : CacheSound (releaseSlot o s).rc := by
  cases o with
  | none => exact h
  | some i => exact cacheSound_releaseReference h i

theorem cacheSound_invalidateSlot {s : State} (h : CacheSound s.rc) (i : SlotNo) : CacheSound (invalidateSlot i s).rc := by
  unfold invalidateSlot
  split
  case h_1 n hslot =>
    split
    case isTrue => exact cacheSound_leave h (by simp [CacheSlot.matchesUnit]) rfl (by simp [CacheSlot.isStale])
    case isFalse hn =>
      exact cacheSound_leave h (by simp [CacheSlot.matchesUnit]) rfl fun _ => Nat.one_le_iff_ne_zero.2 hn
  case h_2 hslot =>
    exact cacheSound_setSlot h (by simp [hslot, CacheSlot.matchesUnit]) (by rw [hslot]; rfl) (by simp [CacheSlot.isStale])
  case h_3 => exact h

theorem cacheSound_performInvalidation {s : State} (h : CacheSound s.rc) (d : Descriptor) :
    CacheSound (performInvalidation d s).rc := by
  have hunit : ∀ (s : State) (u : Byte), CacheSound s.rc → CacheSound (invalidateUnit u s).rc := fun s u h => by
    unfold invalidateUnit
    split
    · exact cacheSound_invalidateSlot h _
    · exact h
  unfold performInvalidation invalidateAll
  split
  · exact foldl_invariant _ (fun s : State => CacheSound s.rc) (fun s i h => cacheSound_invalidateSlot h i) _ _ h
  · exact foldl_invariant _ (fun s : State => CacheSound s.rc) hunit _ _ h

/-! ## Lookups (R29 to R32) -/

/-- A unit request that reaches the policy check takes a reference on its slot, or leaves the cache as it is (R14). -/
theorem rc_unitPolicyCheck (t : Tag) (i : SlotNo) (route : Route) (s : State) :
    (unitPolicyCheck t i route s).rc = s.rc ∨ (unitPolicyCheck t i route s).rc = (takeReference i s).rc := by
  have hports : ∀ (b : Branch) (s : State), (portChecks t i b s).rc = s.rc ∨ (portChecks t i b s).rc = (takeReference i s).rc := by
    intro b s
    unfold portChecks
    split
    · exact .inl (by simp)
    · split
      · exact .inl (by simp)
      · refine .inr ?_
        simp only [enterQueue, setPort_rc, takeReference, setTag_slot]
        split <;> rfl
  have hactions : ∀ s : State, (actionChecks t i route s).rc = s.rc ∨ (actionChecks t i route s).rc = (takeReference i s).rc := by
    intro s
    unfold actionChecks
    dsimp only
    split
    · exact .inl (by simp)
    · split
      · exact .inl (by simp)
      · exact .inl (by simp)
      · exact .inl (by simp)
      · exact hports _ s
  unfold unitPolicyCheck judgeUnitRequest
  dsimp only
  split
  · exact .inl (by simp)
  · split
    · exact .inl (by simp)
    · exact .inl (by simp)
    · refine (hactions _).imp id fun heq => heq.trans ?_
      simp only [takeReference, setTag_slot]
      split <;> rfl

theorem cacheSound_unitPolicyCheck {s : State} (h : CacheSound s.rc) (t : Tag) (i : SlotNo) (route : Route) :
    CacheSound (unitPolicyCheck t i route s).rc := by
  rcases rc_unitPolicyCheck t i route s with heq | heq <;> rw [heq]
  · exact h
  · exact cacheSound_takeReference h i

theorem cacheSound_lookupMiss {s : State} (h : CacheSound s.rc) (t : Tag) {unit : Byte}
    (hunmatched : s.rc.matching unit = none) : CacheSound (lookupMiss t unit s).rc := by
  unfold lookupMiss
  split
  case h_1 => exact h
  case h_2 i _ =>
    have hclaim : CacheSound (claimSlot t i unit s).rc := by
      refine cacheSound_leave (s := withdrawFill i s) h (fun u hu j _ => ?_) rfl (by simp [CacheSlot.isStale])
      obtain rfl : unit = u := by simpa [CacheSlot.matchesUnit] using hu
      have hno := List.find?_eq_none.1 hunmatched j (List.mem_finRange j)
      exact Bool.eq_false_iff.2 hno
    dsimp only
    split <;> simpa using hclaim

theorem cacheSound_lookup {s : State} (h : CacheSound s.rc) (t : Tag) : CacheSound (lookup t s).rc := by
  unfold lookup
  dsimp only
  split
  case h_1 hunmatched => exact cacheSound_lookupMiss h t hunmatched
  case h_2 i hi =>
    split
    case h_1 hslot =>
      refine cacheSound_unitPolicyCheck ?_ t i _
      have htouch := cacheSound_touch (i := i) (c := s.slot i) h (fun _ hu => hu) (by rw [hslot]; rfl)
      have hself : s.setSlot i (s.slot i) = s := by simp [State.setSlot, State.slot]
      rwa [hself] at htouch
    case h_2 hslot =>
      exact cacheSound_setSlot h (by simp [hslot, CacheSlot.matchesUnit]) (by rw [hslot]; rfl) (by simp [CacheSlot.isStale])
    case h_3 => exact h

theorem cacheSound_classify {s : State} (h : CacheSound s.rc) (r : RequestFrame) : CacheSound (classify r s).rc := by
  have hmanagement : (managementRequest r s).rc = s.rc := by
    unfold managementRequest
    split
    · simp
    · split <;> simp
  unfold classify
  split
  · rwa [hmanagement]
  · split
    · simpa using h
    · split
      · simpa [answerQuery] using h
      · exact cacheSound_lookup h _

theorem cacheSound_dispatchFrame {s : State} (h : CacheSound s.rc) (r : RequestFrame) :
    CacheSound (dispatchFrame r s).rc := by
  unfold dispatchFrame
  split
  · simpa [discardReuse] using h
  · split
    · simpa [answerBad] using h
    · exact cacheSound_classify (by simpa using h) r

theorem cacheSound_chunkArrived {s : State} (h : CacheSound s.rc) (k : Fin 32) (bad : Nat) (bytes : List Byte) :
    CacheSound (chunkArrived k bad bytes s).rc := by
  have hrelease : ∀ (s : State) (t : Tag), CacheSound s.rc → CacheSound (release s t).rc := fun s t h => by
    unfold release
    split
    · simpa using h
    · exact cacheSound_lookup (by simpa using h) t
  unfold chunkArrived
  dsimp only
  split
  · exact foldl_invariant _ (fun s : State => CacheSound s.rc) hrelease _ _ (by simpa using h)
  · simpa using h

/-! ## Fills (R35 to R39) -/

theorem cacheSound_endWaiters {s : State} (h : CacheSound s.rc) (o : OutcomeCode) (waiters : List Tag) :
    CacheSound (endWaiters o waiters s).rc :=
  foldl_invariant _ (fun s : State => CacheSound s.rc) (fun s t h => by simpa using h) _ _ h

/-- A FILLING slot becomes EMPTY. -/
theorem cacheSound_empty {s : State} (h : CacheSound s.rc) {i : SlotNo} (hslot : (s.slot i).isValid = false) :
    CacheSound (s.setSlot i .empty).rc :=
  cacheSound_setSlot h (by simp [CacheSlot.matchesUnit]) (by rw [hslot]; rfl) (by simp [CacheSlot.isStale])

theorem cacheSound_fillResult {s : State} (h : CacheSound s.rc) (i : SlotNo) (bytes : List Byte) :
    CacheSound (fillResult i bytes s).rc := by
  unfold fillResult
  split
  case h_1 hslot =>
    unfold fillMarked
    split
    · simpa using cacheSound_empty h (by rw [hslot]; rfl)
    · simp only [drainReport_frame, judgeFill_frame]
      exact cacheSound_setSlot h (by simp [hslot, CacheSlot.matchesUnit]) (by rw [hslot]; rfl) (by simp [CacheSlot.isStale])
  case h_2 hslot =>
    have hwithout : ∀ k u w, CacheSound (fillWithout k i u w s).rc := fun k u w =>
      cacheSound_endWaiters (by simpa using cacheSound_empty h (by rw [hslot]; rfl)) _ _
    split
    · exact foldl_invariant _ (fun s : State => CacheSound s.rc) (fun s t h => cacheSound_unitPolicyCheck h t i _) _ _
        (cacheSound_touch h (by simp [hslot, CacheSlot.matchesUnit]) rfl)
    · exact hwithout ..
    · exact hwithout ..
  case h_3 => exact h

theorem cacheSound_fillRefused {s : State} (h : CacheSound s.rc) (i : SlotNo) : CacheSound (fillRefused i s).rc := by
  unfold fillRefused
  split
  case h_1 mark waiters hslot =>
    have hended := cacheSound_endWaiters (cacheSound_empty h (by rw [hslot]; rfl)) .storeBusy waiters
    dsimp only
    split
    · simpa using hended
    · exact hended
  case h_2 => exact h

/-! ## Ends of transactions and of exchanges -/

theorem cacheSound_endUnit {s : State} (h : CacheSound s.rc) (t : Tag) (c : EndCause) (st : Option Byte) :
    CacheSound (endUnit t c st s).rc := by
  have hreleased := cacheSound_releaseSlot (s := s.setTag t { s.tag t with slot := none }) h (s.tag t).slot
  simpa [endUnit] using hreleased

theorem cacheSound_dropQueue {s : State} (h : CacheSound s.rc) (b : Branch) : CacheSound (dropQueue b s).rc := by
  refine foldl_invariant _ (fun s : State => CacheSound s.rc) (fun s e h => ?_) _ _ (by simpa using h)
  unfold dropEntry
  split
  · exact cacheSound_endUnit h ..
  · simpa using h

theorem cacheSound_endExchange {s : State} (h : CacheSound s.rc) (b : Branch) (x : Exchange) (c : EndCause) (ok : Bool)
    (st : Option Byte) : CacheSound (endExchange b x c ok st s).rc := by
  have hreport : CacheSound (reportEnd b x c ok st s).rc := by
    unfold reportEnd
    split
    · exact cacheSound_endUnit h ..
    · simpa using h
    · exact cacheSound_releaseSlot h _
  simpa only [endExchange, setPort_rc] using hreport

theorem cacheSound_failAttempt {s : State} (h : CacheSound s.rc) (b : Branch) (x : Exchange) (c : EndCause) :
    CacheSound (failAttempt b x c s).rc := by
  unfold failAttempt
  split
  · exact cacheSound_endExchange h ..
  · split
    · exact cacheSound_endExchange h ..
    · split
      · exact cacheSound_endExchange h ..
      · simpa only [beginAttempt, count_rc, setPort_rc] using h

theorem cacheSound_shutDown {s : State} (h : CacheSound s.rc) (b : Branch) (detail : Byte) :
    CacheSound (shutDown b detail s).rc := by
  have hstate : CacheSound (s.setPort b { s.port b with state := .shutDown }).rc := by rwa [setPort_rc]
  unfold shutDown
  simp only [latchPortShut_frame, recordFault_rc]
  apply cacheSound_dropQueue
  split
  · exact cacheSound_endExchange hstate ..
  · exact hstate

theorem cacheSound_goodEcho {s : State} (h : CacheSound s.rc) (b : Branch) (x : Exchange) :
    CacheSound (goodEcho b x s).rc := by
  unfold goodEcho
  dsimp only
  split
  · exact cacheSound_endExchange (by rwa [setPort_rc]) ..
  · rwa [setPort_rc, setPort_rc]

theorem cacheSound_faultyEcho {s : State} (h : CacheSound s.rc) (b : Branch) (x : Exchange) :
    CacheSound (faultyEcho b x s).rc := by
  unfold faultyEcho
  dsimp only
  split
  · exact cacheSound_shutDown (by rwa [count_rc, setPort_rc]) ..
  · exact cacheSound_failAttempt (by rwa [count_rc, setPort_rc]) ..

theorem cacheSound_hearReply {s : State} (h : CacheSound s.rc) (b : Branch) (x : Exchange) (heard : Heard) :
    CacheSound (hearReply b x heard s).rc := by
  unfold hearReply
  split
  · exact cacheSound_endExchange (by rwa [count_rc, stopTimer, setPort_rc]) ..
  · rwa [count_rc]
  · exact cacheSound_failAttempt (by rwa [count_rc, stopTimer, setPort_rc]) ..

theorem cacheSound_leaveWaiters {s : State} (h : CacheSound s.rc) (t : Tag) : CacheSound (leaveWaiters t s).rc := by
  have hslot : ∀ i : SlotNo, (leaveWaiters t s).rc.slots[i.val] = (s.rc.slots[i.val]).withoutWaiter t :=
    slot_leaveWaiters t s
  have hrecency : (leaveWaiters t s).rc.recency = s.rc.recency := by simp only [leaveWaiters]
  refine cacheSound_congr h hrecency (fun i u => ?_) (fun i => ?_) fun i hi => ?_
  · rw [hslot]; cases s.rc.slots[i.val] <;> rfl
  · rw [hslot]; cases s.rc.slots[i.val] <;> rfl
  · rw [hslot] at hi ⊢
    cases hs : s.rc.slots[i.val] <;> simp [hs, CacheSlot.withoutWaiter, CacheSlot.isStale] at hi ⊢

/-- CANCEL removes a waiter from its slot, or releases the reference of a QUEUED transaction (R18). -/
theorem cacheSound_cancelTransaction {s : State} (h : CacheSound s.rc) (t : Tag) :
    CacheSound (cancelTransaction t s).2.rc := by
  unfold cancelTransaction
  split
  · simp only [endPlain_frame]
    exact cacheSound_leaveWaiters h t
  · simpa using h
  · simp only [endPlain_frame]
    exact cacheSound_releaseSlot (by simpa using h) _
  · rwa [setTag_rc]
  · exact h

/-! ## The trunk break (R45) -/

theorem cacheSound_breakCache {s : State} (h : CacheSound s.rc) : CacheSound (breakCache s).rc := by
  have hqueued : ∀ (s : State) (t : Tag), CacheSound s.rc → CacheSound (releaseQueued s t).rc := fun s t h => by
    unfold releaseQueued
    split
    · exact cacheSound_releaseSlot h _
    · exact h
  have hfilling : ∀ (s : State) (i : SlotNo), CacheSound s.rc → CacheSound (dropFilling s i).rc := fun s i h => by
    unfold dropFilling
    split
    case h_1 hslot =>
      have hempty : CacheSound (s.setSlot i .empty).rc := cacheSound_empty h (by rw [hslot]; rfl)
      dsimp only
      split
      · simpa only [drainReport_frame, withdrawFill_rc] using hempty
      · simpa only [withdrawFill_rc] using hempty
    case h_2 => exact h
  unfold breakCache
  exact foldl_invariant _ (fun s : State => CacheSound s.rc) hfilling _ _
    (foldl_invariant _ (fun s : State => CacheSound s.rc) hqueued _ _ h)

end Sys2Proof.Machine
end

section
/-!
The account of the references and the transactions: a transaction with nothing at stake takes a reference when it enters a Branch Queue and at no other time; a queue's entries and the exchanges give theirs up when they end (R14, R17, R40).
-/

namespace Sys2Proof.Machine

/-! ## The policy check (R11 to R16) -/

/-- A transaction with nothing at stake has been judged: it has entered a Branch Queue with a reference, or the account is as it was. -/
def Account.Judged (A : Account) (t : Tag) (B : Account) : Prop := B = A ∨ ∃ i, B = A.enqueue t i

theorem Account.Judged.agrees {A B : Account} {t : Tag} (h : A.Judged t B) (hA : A.Agrees) (ht : A.stake t = .nothing) :
    B.Agrees := by
  rcases h with rfl | ⟨i, rfl⟩
  · exact hA
  · exact hA.enqueue ht i

theorem Account.Judged.stake_ne {A B : Account} {t v : Tag} (h : A.Judged t B) (hv : v ≠ t) : B.stake v = A.stake v := by
  rcases h with rfl | ⟨i, rfl⟩
  · rfl
  · exact Account.setStake_stake_ne _ _ hv

theorem judged_of_eq {A B : Account} {t : Tag} (h : B = A) : A.Judged t B := .inl h

variable {s : State} {t : Tag}

theorem account_hold_of_nothing (ht : s.account.stake t = .nothing) : (hold t s).account = s.account :=
  (account_of_blocks (s := s.setTag t { s.tag t with state := .held }) rfl rfl rfl).trans
    ((account_setTag ..).trans (Account.setStake_nothing ht))

theorem account_enterQueue {i : SlotNo} (hi : (s.slot i).isValid = true) (b : Branch) :
    (enterQueue t i b s).account = s.account.enqueue t i := by
  generalize hu : s.setTag t { s.tag t with state := .queued, slot := some i } = u
  have hqueued : u.account = s.account.setStake t (.queued (some i)) := hu ▸ account_setTag ..
  have htaken : (takeReference i u).account = s.account.enqueue t i := by
    rw [account_takeReference (by rwa [← hu, setTag_slot]), hqueued]
    rfl
  unfold enterQueue
  dsimp only
  rw [hu]
  refine (account_setPort_of_hold ?_).trans htaken
  rfl

/-- A unit request that reaches the policy check with a VALID slot is judged (R12, R14). -/
theorem judged_unitPolicyCheck (ht : s.account.stake t = .nothing) {i : SlotNo} (hi : (s.slot i).isValid = true)
    (route : Route) : s.account.Judged t (unitPolicyCheck t i route s).account := by
  have hports : ∀ (u : State) (b : Branch), u.account = s.account → (u.slot i).isValid = true →
      s.account.Judged t (portChecks t i b u).account := fun u b hu hvalid => by
    unfold portChecks
    split
    · exact .inl (by rw [account_endPlain, hu, Account.setStake_nothing ht])
    · split
      · exact .inl (by rw [account_endPlain, hu, Account.setStake_nothing ht])
      · exact .inr ⟨i, by rw [account_enterQueue hvalid, hu]⟩
  unfold unitPolicyCheck
  split
  · exact .inl (account_hold_of_nothing ht)
  · unfold judgeUnitRequest
    dsimp only
    generalize hu : s.setTag t { s.tag t with facts := some (routeFacts (s.tag t) route) } = u
    have haccount : u.account = s.account := hu ▸ account_setTag_of_stake rfl
    have hvalid : (u.slot i).isValid = true := by rwa [← hu, setTag_slot]
    split
    · exact .inl (by simp [refuse, haccount, Account.setStake_nothing ht])
    · exact .inl (by simp [answerLocally, haccount, Account.setStake_nothing ht])
    · unfold actionChecks
      dsimp only
      split
      · exact .inl (by simp [refuseIllegal, refuse, haccount, Account.setStake_nothing ht])
      · split
        · exact .inl (by simp [refuseIllegal, refuse, haccount, Account.setStake_nothing ht])
        · exact .inl (by simp [refuse, haccount, Account.setStake_nothing ht])
        · exact .inl (by simp [answerLocally, haccount, Account.setStake_nothing ht])
        · exact hports u _ haccount hvalid

/-- A slot that is VALID stays so at the policy check. -/
theorem isValid_unitPolicyCheck {i : SlotNo} (hi : (s.slot i).isValid = true) (route : Route) :
    ((unitPolicyCheck t i route s).slot i).isValid = true := by
  rcases rc_unitPolicyCheck t i route s with heq | heq
  · rwa [State.slot, heq]
  · rw [State.slot, heq, ← State.slot]
    unfold takeReference
    split
    · rw [slot_setSlot_self]; rfl
    · exact hi

theorem account_decideBroadcast (ht : s.account.stake t = .nothing) : (decideBroadcast t s).account = s.account := by
  unfold decideBroadcast
  dsimp only
  split
  · rfl
  · split
    · split <;> simp [Account.setStake_nothing ht]
    · simp [Account.setStake_nothing ht]

@[simp] theorem account_setMember (t : Tag) (b : Branch) (m : MemberState) (s : State) :
    (setMember t b m s).account = s.account := account_setTag_of_stake rfl

theorem account_endMember (ht : s.account.stake t = .nothing) (b : Branch) (ok : Bool) :
    (endMember t b ok s).account = s.account := by
  rw [endMember, account_decideBroadcast (by rwa [account_setMember]), account_setMember]

theorem account_fanOutTo (t : Tag) (s : State) (b : Branch) : (fanOutTo t s b).account = s.account := by
  unfold fanOutTo
  split
  · split
    · rw [account_setMember]
      exact account_setPort_of_hold rfl
    · exact account_setMember ..
  · rfl

/-- A broadcast takes no reference (R15, R40). -/
theorem account_broadcastPolicyCheck (ht : s.account.stake t = .nothing) :
    (broadcastPolicyCheck t s).account = s.account := by
  have hfan : (fanOut t s).account = s.account := by
    have hstart : (s.setTag t { s.tag t with state := .bcast, members := Vector.replicate 4 none }).account = s.account := by
      rw [account_setTag]
      exact Account.setStake_nothing ht
    have hfold := (foldl_keeps (fanOutTo t) State.account (account_fanOutTo t) (List.finRange 4) _).trans hstart
    unfold fanOut
    dsimp only
    rw [account_decideBroadcast (by rw [hfold, ht]), hfold]
  unfold broadcastPolicyCheck judgeBroadcast
  dsimp only
  split
  · exact account_hold_of_nothing ht
  · split
    · simp [refuseIllegal, refuse, Account.setStake_nothing ht]
    · simp [refuse, Account.setStake_nothing ht]
    · simp [Account.setStake_nothing ht]
    · exact hfan

/-! ## Lookups and dispatches (R4 to R10, R29 to R32) -/

/-- The victim of a miss has no references (R32). -/
theorem refs_of_victim {i : SlotNo} (h : s.rc.victim = some i) : (s.slot i).refs = 0 := by
  have hcases : (s.slot i).isEmpty = true ∨ (s.slot i).isIdleValid = true ∨ (s.slot i).isUnawaited = true := by
    unfold RouteCache.victim at h
    simp only [Option.orElse_eq_orElse, Option.orElse_eq_or, Option.or_eq_some_iff] at h
    rcases h with hfound | ⟨-, hfound | ⟨-, hfound⟩⟩
    · exact .inl (List.find?_some (p := fun j : SlotNo => (s.slot j).isEmpty) hfound)
    · exact .inr (.inl (List.find?_some (p := fun j : SlotNo => (s.slot j).isIdleValid) hfound))
    · exact .inr (.inr (List.find?_some (p := fun j : SlotNo => (s.slot j).isUnawaited) hfound))
  cases hs : s.slot i <;> simp [hs, CacheSlot.isEmpty, CacheSlot.isIdleValid, CacheSlot.isUnawaited] at hcases <;>
    simp [CacheSlot.refs, hcases]

theorem judged_lookup (ht : s.account.stake t = .nothing) : s.account.Judged t (lookup t s).account := by
  unfold lookup
  dsimp only
  split
  case h_1 =>
    unfold lookupMiss
    split
    case h_1 => exact .inl rfl
    case h_2 i hvictim =>
      have hclaim : (claimSlot t i (s.tag t).unit s).account = s.account := by
        have hset := account_setSlot_of_refs (s := leaveRecency i (withdrawFill i s)) (i := i)
          (c := .filling (s.tag t).unit false [t]) (by rw [← account_refs]; exact (refs_of_victim hvictim).symm)
        exact hset.trans (by simp)
      dsimp only
      split <;> exact .inl (by simp [hclaim])
  case h_2 i _ =>
    split
    case h_1 hslot =>
      exact judged_unitPolicyCheck (s := count (.bridge .cacheHits) (touch i s)) ht
        (by show (s.slot i).isValid = true; rw [hslot]; rfl) _
    case h_2 hslot => exact .inl ((account_count ..).trans (account_setSlot_of_refs (by rw [hslot]; rfl)))
    case h_3 => exact .inl rfl

theorem judged_release (ht : s.account.stake t = .nothing) : s.account.Judged t (release s t).account := by
  unfold release
  split
  · exact .inl (account_broadcastPolicyCheck ht)
  · have hset : (s.setTag t { s.tag t with state := .lookup }).account = s.account := by
      rw [account_setTag]
      exact Account.setStake_nothing ht
    rw [← hset]
    exact judged_lookup (by rwa [hset])

theorem judged_classify {r : RequestFrame} (ht : s.account.stake r.tag = .nothing) :
    s.account.Judged r.tag (classify r s).account := by
  have hmanagement : (managementRequest r s).account = s.account := by
    unfold managementRequest
    split
    · simp [Account.setStake_nothing ht]
    · split
      · simp [Account.setStake_nothing ht]
      · exact (account_of_blocks (s := s.setTag r.tag { s.tag r.tag with state := .mgmt }) rfl rfl rfl).trans
          ((account_setTag ..).trans (Account.setStake_nothing ht))
  unfold classify
  split
  · exact .inl hmanagement
  · split
    · exact .inl (account_broadcastPolicyCheck ht)
    · split
      · exact .inl (by simp [answerQuery, Account.setStake_nothing ht])
      · exact judged_lookup ht

theorem accountAgrees_dispatchFrame (h : s.account.Agrees) (r : RequestFrame) : (dispatchFrame r s).account.Agrees := by
  unfold dispatchFrame
  split
  case isTrue => exact h
  case isFalse hfree =>
    have ht : s.account.stake r.tag = .nothing := by
      have hstate : (s.tag r.tag).state = .free := not_not.1 hfree
      exact stake_of_state hstate (by decide) (by decide)
    have hfill : (fillRecord r s).account = s.account :=
      (account_of_blocks (s := s.setTag r.tag (newRecord s.dsp.nextSeq r)) rfl rfl rfl).trans
        ((account_setTag ..).trans (Account.setStake_nothing ht))
    split
    · simpa [answerBad, hfill, Account.setStake_nothing ht] using h
    · exact (judged_classify (hfill ▸ ht)).agrees (hfill ▸ h) (hfill ▸ ht)

end Sys2Proof.Machine
end

section
/-!
The account of the references at the fills, the ports, CANCEL and a trunk break.
-/

namespace Sys2Proof.Machine

variable {s : State}

/-! ## Fills and releases (R35 to R39, R61) -/

/-- Transactions with nothing at stake are judged one after another. -/
theorem accountAgrees_foldl_judged (f : State → Tag → State) (P : State → Prop)
    (hf : ∀ s t, P s → s.account.stake t = .nothing → P (f s t) ∧ s.account.Judged t (f s t).account) :
    ∀ (ts : List Tag) (s : State), ts.Nodup → P s → s.account.Agrees → (∀ t ∈ ts, s.account.stake t = .nothing) →
      (ts.foldl f s).account.Agrees
  | [], _, _, _, h, _ => h
  | t :: ts, s, hts, hP, h, hstakes => by
    obtain ⟨hnot, hnodup⟩ := List.nodup_cons.1 hts
    have ht : s.account.stake t = .nothing := hstakes t List.mem_cons_self
    obtain ⟨hP', hjudged⟩ := hf s t hP ht
    refine accountAgrees_foldl_judged f P hf ts (f s t) hnodup hP' (hjudged.agrees h ht) fun v hv => ?_
    rw [hjudged.stake_ne fun hvt => hnot (hvt ▸ hv)]
    exact hstakes v (List.mem_cons_of_mem _ hv)

/-- Transactions with nothing at stake that end leave the account as it is. -/
theorem account_endWaiters (o : OutcomeCode) : ∀ (ts : List Tag) (s : State), (∀ t ∈ ts, s.account.stake t = .nothing) →
    (endWaiters o ts s).account = s.account
  | [], _, _ => rfl
  | t :: ts, s, hstakes => by
    have hend : (endPlain t o s).account = s.account := by
      rw [account_endPlain, Account.setStake_nothing (hstakes t List.mem_cons_self)]
    have hrest := account_endWaiters o ts (endPlain t o s) fun v hv => by
      rw [hend]
      exact hstakes v (List.mem_cons_of_mem _ hv)
    exact hrest.trans hend

/-- The waiters of a slot have nothing at stake (R26). -/
theorem stake_of_waiter (h : s.ledger.Agrees) {i : SlotNo} {unit : Byte} {mark : Bool} {waiters : List Tag}
    (hslot : s.slot i = .filling unit mark waiters) {t : Tag} (ht : t ∈ waiters) : s.account.stake t = .nothing := by
  have hmem : Claim.mk t (.waiting unit) ∈ s.ledger.claims (.waiters i) := by
    rw [ledger_claims_waiters, hslot, claims_filling]
    exact mem_claimsOf.2 ⟨ht, rfl⟩
  have hstate : (s.tag t).state = .lookup := ((h (.waiters i)).2 _ hmem).1
  exact stake_of_state hstate (by decide) (by decide)

theorem accountAgrees_fillResult (hledger : s.ledger.Agrees) (h : s.account.Agrees) (i : SlotNo) (bytes : List Byte) :
    (fillResult i bytes s).account.Agrees := by
  unfold fillResult
  split
  case h_1 hslot =>
    have hset : ∀ c : CacheSlot, c.refs = 0 → (s.setSlot i c).account = s.account := fun c hc =>
      account_setSlot_of_refs (by rw [hslot, hc]; rfl)
    unfold fillMarked
    split
    · rwa [account_drainReport, hset _ rfl]
    · rwa [account_drainReport, account_judgeFill, hset _ rfl]
  case h_2 unit waiters hslot =>
    have hset : ∀ c : CacheSlot, c.refs = 0 → (s.setSlot i c).account = s.account := fun c hc =>
      account_setSlot_of_refs (by rw [hslot, hc]; rfl)
    have hstakes : ∀ t ∈ waiters, s.account.stake t = .nothing := fun t ht => stake_of_waiter hledger hslot ht
    have hwithout : ∀ k, (fillWithout k i unit waiters s).account.Agrees := fun k => by
      have hfault : (fillFault k unit waiters (s.setSlot i .empty)).account = s.account := by
        rw [account_fillFault, hset _ rfl]
      unfold fillWithout
      rwa [account_endWaiters _ _ _ (by rwa [hfault]), hfault]
    split
    case h_1 route _ =>
      have hfilled : (touch i (s.setSlot i (.valid unit route 0))).account = s.account := by
        rw [account_touch, hset _ rfl]
      exact accountAgrees_foldl_judged (fun u t => unitPolicyCheck t i route u) (fun u => (u.slot i).isValid = true)
        (fun u t hu ht => ⟨isValid_unitPolicyCheck hu route, judged_unitPolicyCheck ht hu route⟩) _ _
        (nodup_waiters hledger hslot) (by simp [touch, CacheSlot.isValid]) (hfilled ▸ h) (by rwa [hfilled])
    case h_2 => exact hwithout _
    case h_3 => exact hwithout _
  case h_3 => exact h

theorem account_fillRefused (hledger : s.ledger.Agrees) (i : SlotNo) : (fillRefused i s).account = s.account := by
  unfold fillRefused
  split
  case h_1 mark waiters hslot =>
    have hset : (s.setSlot i .empty).account = s.account := account_setSlot_of_refs (by rw [hslot]; rfl)
    have hended : (endWaiters .storeBusy waiters (s.setSlot i .empty)).account = s.account := by
      rw [account_endWaiters _ _ _ fun t ht => by rw [hset]; exact stake_of_waiter hledger hslot ht, hset]
    dsimp only
    split
    · rwa [account_drainReport]
    · exact hended
  case h_2 => rfl

theorem accountAgrees_chunkArrived (hledger : s.ledger.Agrees) (h : s.account.Agrees) (k : Fin 32) (bad : Nat)
    (bytes : List Byte) : (chunkArrived k bad bytes s).account.Agrees := by
  unfold chunkArrived
  dsimp only
  split
  case isTrue =>
    obtain ⟨hnodup, hstates⟩ : HeldHeld s := ((tagsHeld_iff_agrees s).2 hledger).2.1
    refine accountAgrees_foldl_judged release (fun _ => True) (fun u t _ ht => ⟨trivial, judged_release ht⟩) _ _ hnodup
      trivial h fun t ht => ?_
    have hstate : (s.tag t).state = .held := hstates t ht
    exact stake_of_state hstate (by decide) (by decide)
  case isFalse => exact h

/-! ## Ends of unit transactions and of exchanges (R17, R70, R77) -/

/-- A unit transaction that ends gives up its reference and has nothing more at stake (R17). -/
theorem account_endUnit (t : Tag) (c : EndCause) (st : Option Byte) (s : State) :
    (endUnit t c st s).account = (s.account.release (s.tag t).slot).setStake t .nothing := by
  have hrelease : ∀ k, (s.account.setStake t k).release (s.tag t).slot = (s.account.release (s.tag t).slot).setStake t k :=
    fun k => rfl
  simp [endUnit, hrelease]

/-- A queue's entry has at stake what its kind says: a unit may name a slot, a member has nothing. -/
def QueueEntry.staked (e : QueueEntry) (A : Account) : Prop :=
  e.kind = .unit ∧ (∃ o, A.stake e.tag = .queued o) ∨ e.kind = .member ∧ A.stake e.tag = .nothing

theorem staked_of_mem (h : s.ledger.Agrees) {b : Branch} {e : QueueEntry} (he : e ∈ (s.port b).queue) :
    e.staked s.account := by
  have hmem : Claim.mk e.tag (.atPort b e.kind false) ∈ s.ledger.claims (.port b) := by
    rw [ledger_claims_port, BranchPort.claims]
    exact Multiset.mem_add.2 (.inl (Multiset.mem_coe.2
      (List.mem_map_of_mem (f := fun e : QueueEntry => Claim.mk e.tag (.atPort b e.kind false)) he)))
  have hfit := (h (.port b)).2 _ hmem
  unfold QueueEntry.staked
  cases hkind : e.kind with
  | unit =>
    rw [hkind] at hfit
    exact .inl ⟨rfl, (s.tag e.tag).slot, (stake_eq_queued_iff _ _).2 ⟨hfit.1, rfl⟩⟩
  | member =>
    rw [hkind] at hfit
    exact .inr ⟨rfl, stake_of_state hfit.1 (by decide) (by decide)⟩

/-- A queue entry that its port has given up gives up its reference, if it has one; nobody else's stake changes (R70, R78). -/
theorem account_dropEntry (b : Branch) {e : QueueEntry} (h : s.account.Agrees) (he : e.staked s.account) :
    (dropEntry b e s).account.Agrees ∧ ∀ v, v ≠ e.tag → (dropEntry b e s).account.stake v = s.account.stake v := by
  unfold dropEntry
  rcases he with ⟨hkind, o, ho⟩ | ⟨hkind, hnothing⟩
  · rw [hkind]
    have hslot : (s.tag e.tag).slot = o := ((stake_eq_queued_iff _ _).1 ho).2
    have haccount := account_endUnit e.tag .portDown none s
    rw [hslot] at haccount
    dsimp only
    rw [haccount]
    exact ⟨h.dequeue ho, fun v hv => Account.setStake_stake_ne _ _ hv⟩
  · rw [hkind]
    dsimp only
    rw [account_endMember hnothing]
    exact ⟨h, fun _ _ => rfl⟩

/-- The entries that a port has given up end one after another. -/
theorem accountAgrees_foldl_dropEntry (b : Branch) : ∀ (es : List QueueEntry) (s : State), (es.map (·.tag)).Nodup →
    s.account.Agrees → (∀ e ∈ es, e.staked s.account) → (es.foldl (fun s e => dropEntry b e s) s).account.Agrees
  | [], _, _, h, _ => h
  | e :: es, s, hes, h, hstaked => by
    obtain ⟨hnot, hnodup⟩ := List.nodup_cons.1 hes
    obtain ⟨hagrees, hothers⟩ := account_dropEntry b h (hstaked e List.mem_cons_self)
    refine accountAgrees_foldl_dropEntry b es (dropEntry b e s) hnodup hagrees fun d hd => ?_
    have hne : d.tag ≠ e.tag := fun heq => hnot (List.mem_map.2 ⟨d, hd, heq⟩)
    have hd' := hstaked d (List.mem_cons_of_mem _ hd)
    unfold QueueEntry.staked at hd' ⊢
    rwa [hothers d.tag hne]

theorem accountAgrees_dropQueue (hledger : s.ledger.Agrees) (h : s.account.Agrees) (b : Branch) :
    (dropQueue b s).account.Agrees := by
  have hempty : (s.setPort b { s.port b with queue := [] }).account = s.account := account_setPort_of_hold rfl
  obtain ⟨hnodup, -⟩ := (portHeld_iff s b).2 (hledger (.port b))
  unfold dropQueue
  exact accountAgrees_foldl_dropEntry b _ _ hnodup (hempty ▸ h) fun e he => hempty ▸ staked_of_mem hledger he

/-- The current exchange of a port ends, with the reference that it names (R77, R90). -/
theorem accountAgrees_endExchange (hledger : s.ledger.Agrees) (h : s.account.Agrees) {b : Branch} {x : Exchange}
    (hx : (s.port b).exchange.current = some x) (c : EndCause) (ok : Bool) (st : Option Byte) :
    (endExchange b x c ok st s).account.Agrees := by
  have hhold : s.account.hold b = x.hold := portHold_of_current hx
  have hended : (endExchange b x c ok st s).account = (reportEnd b x c ok st s).account.setHold b .nothing := by
    unfold endExchange
    dsimp only
    rw [account_setPort, portHold_of_idle rfl]
  rw [hended]
  unfold reportEnd
  split
  case h_1 t horphan htag hkind =>
    have hserves : s.account.hold b = .serves t x.slot :=
      hhold.trans ((hold_eq_serves_iff _ _ _).2 ⟨horphan, hkind, htag, rfl⟩)
    have hslot : (s.tag t).slot = x.slot := ((stake_eq_active_iff _ _).1 (h.paired.serves b t _ hserves)).2
    rw [account_endUnit, hslot]
    exact h.finish hserves
  case h_2 t horphan htag hkind =>
    have hother : s.account.hold b = .other x.slot :=
      hhold.trans ((hold_eq_other_iff _ _).2 ⟨horphan, fun v hunit => by simp [hkind] at hunit, rfl⟩)
    have hmem : Claim.mk t (.atPort b .member true) ∈ s.ledger.claims (.port b) := by
      rw [ledger_claims_port, BranchPort.claims, exchangeClaims_of_current b hx]
      exact Multiset.mem_add.2 (.inr (by simp [Exchange.claims, horphan, htag, hkind]))
    have hstate : (s.tag t).state = .bcast := ((hledger (.port b)).2 _ hmem).1
    have hclear := h.clear (b := b) fun v o hv => by rw [hother] at hv; cases hv
    rw [hother, h.paired.other b _ hother] at hclear
    rw [account_endMember (stake_of_state hstate (by decide) (by decide))]
    simpa [Hold.slot] using hclear
  case h_3 hunit hmember =>
    have hclear := h.clear (b := b) fun v o hv => by
      obtain ⟨horphan, hkind, htag, -⟩ := (hold_eq_serves_iff _ _ _).1 (hhold.symm.trans hv)
      exact hunit v horphan htag hkind
    rw [hhold, slot_hold] at hclear
    rwa [account_releaseSlot]

/-! ## Attempts, shutdown and the taking of the head (R72 to R78) -/

theorem account_beginAttempt (b : Branch) (x : Exchange) (s : State) :
    (beginAttempt b x s).account = s.account.setHold b x.hold := by
  unfold beginAttempt
  dsimp only
  rw [account_count, account_setPort]
  rfl

theorem accountAgrees_failAttempt (hledger : s.ledger.Agrees) (h : s.account.Agrees) {b : Branch} {x : Exchange}
    (hx : (s.port b).exchange.current = some x) (c : EndCause) : (failAttempt b x c s).account.Agrees := by
  unfold failAttempt
  split
  · exact accountAgrees_endExchange hledger h hx _ _ _
  · split
    · exact accountAgrees_endExchange hledger h hx _ _ _
    · split
      · exact accountAgrees_endExchange hledger h hx _ _ _
      · rw [account_beginAttempt, account_count, ← portHold_of_current hx, ← account_hold, Account.setHold_self]
        exact h

theorem accountAgrees_shutDown (hledger : s.ledger.Agrees) (h : s.account.Agrees) (b : Branch) (detail : Byte) :
    (shutDown b detail s).account.Agrees := by
  have haccount : (s.setPort b { s.port b with state := .shutDown }).account = s.account := account_setPort_of_hold rfl
  have hstate : (s.setPort b { s.port b with state := .shutDown }).ledger.Agrees := by
    rwa [ledger_setPort_of_claims]
    exact portClaims_congr rfl rfl
  unfold shutDown
  dsimp only
  rw [account_latchPortShut, account_recordFault]
  split
  case h_1 x hx =>
    exact accountAgrees_dropQueue (agrees_endExchange hstate hx _ _ _)
      (accountAgrees_endExchange hstate (haccount ▸ h) hx _ _ _) b
  case h_2 => exact accountAgrees_dropQueue hstate (haccount ▸ h) b

/-- The head of a queue becomes the exchange of its idle port, with its reference (R72). -/
theorem accountAgrees_takeEntry (hledger : s.ledger.Agrees) (h : s.account.Agrees) {b : Branch} {e : QueueEntry}
    {rest : List QueueEntry} (hidle : (s.port b).exchange = .idle) (hqueue : (s.port b).queue = e :: rest) :
    (takeEntry b e rest s).account.Agrees := by
  have hb : s.account.hold b = .nothing := portHold_of_idle hidle
  unfold takeEntry
  split
  case h_1 => exact h
  case h_2 x hx =>
    have haccount : (beginAttempt b x ((s.setTag e.tag ((s.tag e.tag).taken e.kind)).setPort b
        { s.port b with queue := rest })).account =
          (s.account.setStake e.tag ((s.tag e.tag).taken e.kind).stake).setHold b x.hold := by
      rw [account_beginAttempt, account_setPort, account_setTag]
      simp [Account.setHold]
    rw [haccount]
    unfold formExchange at hx
    have hmem : e ∈ (s.port b).queue := by simp [hqueue]
    rcases staked_of_mem hledger hmem with ⟨hkind, o, ho⟩ | ⟨hkind, hnothing⟩
    · rw [hkind] at hx ⊢
      obtain ⟨f, -, rfl⟩ := Option.map_eq_some_iff.1 hx
      have hslot : (s.tag e.tag).slot = o := ((stake_eq_queued_iff _ _).1 ho).2
      have htake := h.take hb ho
      rw [← hslot] at htake
      exact htake
    · rw [hkind] at hx ⊢
      obtain rfl := Option.some.inj hx
      have hstake : ((s.tag e.tag).taken .member).stake = s.account.stake e.tag := rfl
      rw [hstake, Account.setStake_self]
      exact h.takeOther hb

theorem accountAgrees_goodEcho (hledger : s.ledger.Agrees) (h : s.account.Agrees) {b : Branch} {x : Exchange}
    (hx : (s.port b).exchange = .sending x) : (goodEcho b x s).account.Agrees := by
  have hcleared : (s.setPort b { s.port b with watchdog := none, echoFaults := 0 }).ledger.Agrees := by
    rwa [ledger_setPort_of_claims]
    exact portClaims_congr rfl rfl
  have haccount : (s.setPort b { s.port b with watchdog := none, echoFaults := 0 }).account = s.account :=
    account_setPort_of_hold rfl
  unfold goodEcho
  dsimp only
  split
  · exact accountAgrees_endExchange hcleared (haccount ▸ h) (by simp [hx, ExchangeState.current]) _ _ _
  · refine (account_setPort_of_hold (s := s.setPort b _) ?_).trans haccount ▸ h
    rw [port_setPort_self]
    simp [BranchPort.hold, hx, ExchangeState.current]

theorem accountAgrees_faultyEcho (hledger : s.ledger.Agrees) (h : s.account.Agrees) {b : Branch} {x : Exchange}
    (hx : (s.port b).exchange = .sending x) : (faultyEcho b x s).account.Agrees := by
  have hcounted : (count (.branch b .echoFaults)
      (s.setPort b { s.port b with watchdog := none, echoFaults := (s.port b).echoFaults + 1 })).ledger.Agrees := by
    rwa [ledger_count, ledger_setPort_of_claims]
    exact portClaims_congr rfl rfl
  have haccount : (count (.branch b .echoFaults)
      (s.setPort b { s.port b with watchdog := none, echoFaults := (s.port b).echoFaults + 1 })).account = s.account :=
    (account_count ..).trans (account_setPort_of_hold rfl)
  unfold faultyEcho
  dsimp only
  split
  · exact accountAgrees_shutDown hcounted (haccount ▸ h) b _
  · exact accountAgrees_failAttempt hcounted (haccount ▸ h) (by simp [hx, ExchangeState.current]) _

@[simp] theorem account_stopTimer (b : Branch) (s : State) : (stopTimer b s).account = s.account :=
  account_setPort_of_hold rfl

theorem accountAgrees_hearReply (hledger : s.ledger.Agrees) (h : s.account.Agrees) {b : Branch} {x : Exchange}
    (hx : (s.port b).exchange = .waiting x) (heard : Heard) : (hearReply b x heard s).account.Agrees := by
  have hcurrent : ((stopTimer b s).port b).exchange.current = some x := by simp [stopTimer, hx, ExchangeState.current]
  unfold hearReply
  split
  · exact accountAgrees_endExchange (by simpa using hledger) (by simpa using h) (by simpa using hcurrent) _ _ _
  · simpa using h
  · exact accountAgrees_failAttempt (by simpa using hledger) (by simpa using h) (by simpa using hcurrent) _

/-! ## CANCEL (R18) -/

theorem accountAgrees_cancelTransaction (h : s.account.Agrees) (t : Tag) : (cancelTransaction t s).2.account.Agrees := by
  unfold cancelTransaction
  split
  case h_1 ht =>
    have hleave : (leaveWaiters t s).account = s.account := by
      refine account_congr (fun i => ?_) (fun v => by rw [tag_leaveWaiters]) fun b => by simp [State.port]
      rw [slot_leaveWaiters]
      cases s.slot i <;> rfl
    rwa [account_endPlain, hleave, Account.setStake_nothing (stake_of_state ht (by decide) (by decide))]
  case h_2 ht =>
    have hleave : (leaveHeld t s).account = s.account := rfl
    rwa [account_endPlain, hleave, Account.setStake_nothing (stake_of_state ht (by decide) (by decide))]
  case h_3 ht =>
    have hleave : (leaveQueue t s).account = s.account := by
      unfold leaveQueue
      split
      · exact account_setPort_of_hold rfl
      · rfl
    have htag : (leaveQueue t s).tag t = s.tag t := by simp [State.tag]
    have hstake : s.account.stake t = .queued (s.tag t).slot := (stake_eq_queued_iff _ _).2 ⟨ht, rfl⟩
    rw [account_endPlain, dropReference, account_releaseSlot, account_setTag, hleave, htag]
    have hcommute : ∀ k, ((s.account.setStake t k).release (s.tag t).slot).setStake t .nothing =
        (s.account.release (s.tag t).slot).setStake t .nothing := fun k =>
      Account.setStake_setStake (s.account.release (s.tag t).slot) t k .nothing
    rw [hcommute]
    exact h.dequeue hstake
  case h_4 => exact (account_setTag_of_stake (t := t) (r := { s.tag t with cancelPending := true }) rfl).symm ▸ h
  case h_5 => exact h

/-! ## The trunk break (R22, R45, R89) -/

/-- The references of the QUEUED transactions among these tags are released. -/
theorem account_foldl_releaseQueued : ∀ (ts : List Tag) (s : State),
    (ts.foldl releaseQueued s).account.stake = s.account.stake ∧ (ts.foldl releaseQueued s).account.hold = s.account.hold ∧
    ∀ i, (ts.foldl releaseQueued s).account.refs i =
      s.account.refs i - (ts.filter fun t => s.account.stake t = .queued (some i)).length
  | [], s => ⟨rfl, rfl, fun i => rfl⟩
  | t :: ts, s => by
    have hone : (releaseQueued s t).account.stake = s.account.stake ∧ (releaseQueued s t).account.hold = s.account.hold ∧
        ∀ i, (releaseQueued s t).account.refs i =
          s.account.refs i - if s.account.stake t = .queued (some i) then 1 else 0 := by
      unfold releaseQueued
      split
      case isTrue ht =>
        rw [account_releaseSlot]
        refine ⟨rfl, rfl, fun i => ?_⟩
        simp [Account.release, account_stake, stake_eq_queued_iff, ht]
      case isFalse ht => exact ⟨rfl, rfl, fun i => by simp [account_stake, stake_eq_queued_iff, ht]⟩
    obtain ⟨hstake, hhold, hrefs⟩ := hone
    obtain ⟨hstake', hhold', hrefs'⟩ := account_foldl_releaseQueued ts (releaseQueued s t)
    refine ⟨hstake'.trans hstake, hhold'.trans hhold, fun i => (hrefs' i).trans ?_⟩
    rw [hrefs, hstake, List.filter_cons, Nat.sub_sub]
    split <;> simp_all [Nat.add_comm]

theorem account_dropFilling (s : State) (i : SlotNo) : (dropFilling s i).account = s.account := by
  unfold dropFilling
  split
  case h_1 hslot =>
    have hset : (s.setSlot i .empty).account = s.account := account_setSlot_of_refs (by rw [hslot]; rfl)
    dsimp only
    split
    · rwa [account_drainReport, account_withdrawFill]
    · rwa [account_withdrawFill]
  case h_2 => rfl

/-- An exchange keeps its slot when a break makes it an orphan (R89). -/
theorem hold_broken (p : BranchPort) :
    (p.broken.hold = .nothing ∨ ∃ o, p.broken.hold = .orphan o) ∧ p.broken.hold.slot = p.hold.slot := by
  unfold BranchPort.broken BranchPort.hold
  cases p.exchange with
  | idle => exact ⟨.inl rfl, rfl⟩
  | sending x => exact ⟨.inr ⟨x.slot, rfl⟩, (slot_hold x).symm⟩
  | waiting x => exact ⟨.inr ⟨x.slot, rfl⟩, (slot_hold x).symm⟩

/-- After a trunk break the exchanges, now orphans, hold the references that are left (R22, R89). -/
theorem accountAgrees_breakEffects (h : s.account.Agrees) : (breakEffects s).account.Agrees := by
  generalize hu : count (.trunk .breaks) { s with tp := s.tp.broken } = u
  have huaccount : u.account = s.account := hu ▸ rfl
  have hcache : (breakCache u).account = ((List.finRange 16).foldl releaseQueued u).account :=
    foldl_keeps dropFilling State.account account_dropFilling (List.finRange 32) _
  have hhold : ∀ b, (breakEffects s).account.hold b = (s.port b).broken.hold := fun b => by
    simp [account_hold, State.port, breakEffects, freeTags]
  have hrefs : ∀ i, (breakEffects s).account.refs i = s.account.held i := fun i => by
    have hbroken : (breakEffects s).account.refs i = (breakCache u).account.refs i := by
      rw [account_refs, account_refs, State.slot, rc_breakEffects, hu, ← State.slot]
    have hqueued : ((List.finRange 16).filter fun t => s.account.stake t = .queued (some i)).length = s.account.queued i := by
      rw [length_filter_finRange]
      simp [Account.queued]
    rw [hbroken, hcache, (account_foldl_releaseQueued (List.finRange 16) u).2.2 i, huaccount, hqueued, h.counted i,
      Nat.add_sub_cancel_left]
  have hheld : ∀ i, (breakEffects s).account.held i = s.account.held i := fun i => by
    refine congrArg Finset.card (Finset.filter_congr fun b _ => ?_)
    rw [hhold, (hold_broken _).2, account_hold]
  refine Account.agrees_of_orphans (fun t => ?_) (fun b => ?_) fun i => by rw [hrefs, hheld]
  · have hblank : (breakEffects s).tag t = TagRecord.blank := by simp [breakEffects, freeTags, State.tag]
    rw [account_stake, hblank]
    rfl
  · rw [hhold]
    exact (hold_broken _).1

end Sys2Proof.Machine
end

section
/-!
Every step keeps the Route Cache sound and the account of its references in agreement (O58): the events, then the commands of the opcode table.
-/

namespace Sys2Proof.Machine

/-- The Route Cache stays sound; where every tag is held as its record says, the account of the references goes on agreeing. -/
structure Kept (s s' : State) : Prop where
  cache : CacheSound s.rc → CacheSound s'.rc
  account : s.ledger.Agrees → s.account.Agrees → s'.account.Agrees

variable {s s' : State}

theorem Kept.refl (s : State) : Kept s s := ⟨id, fun _ => id⟩

/-- Nothing that has to do with the slots or their references changes. -/
theorem kept_of_eq (hrc : s'.rc = s.rc) (haccount : s'.account = s.account) : Kept s s' :=
  ⟨fun h => by rwa [hrc], fun _ h => by rwa [haccount]⟩

theorem kept_of_blocks (hdsp : s'.dsp = s.dsp) (hrc : s'.rc = s.rc) (hports : s'.ports = s.ports) : Kept s s' :=
  kept_of_eq hrc (account_of_blocks hdsp hrc hports)

/-- What follows at the store at the end of an event touches no slot (R136, R140). -/
theorem Kept.settle {u : State} (h : Kept s u) : Kept s (settle u) :=
  ⟨fun hcache => by simpa using h.cache hcache, fun hledger haccount => by simpa using h.account hledger haccount⟩

/-- An event keeps what its body keeps, with power and without. -/
theorem kept_event {body : State} (h : Kept s body) (hs' : event s body = .next s') : Kept s s' := by
  unfold event at hs'
  obtain rfl := Host.Outcome.next.inj hs'
  split
  · exact h
  · exact .refl s

/-! ## States without references -/

/-- A cache whose slots are EMPTY with no records and exchanges beside it: power-on, power loss and soft reset (R3, R28, R92). -/
theorem kept_of_reset (hrc : s'.rc = RouteCache.reset) (hstake : ∀ t, s'.account.stake t = .nothing)
    (hhold : ∀ b, s'.account.hold b = .nothing) : Kept s s' where
  cache _ := hrc ▸ cacheSound_reset
  account _ _ := by
    refine Account.agrees_of_orphans hstake (fun b => .inl (hhold b)) fun i => ?_
    have hheld : s'.account.held i = 0 := by simp [Account.held, hhold, Hold.slot]
    rw [hheld, account_refs, State.slot, hrc]
    simp [RouteCache.reset, CacheSlot.refs]

theorem kept_execPowerOn (hs' : execPowerOn s = .next s') : Kept s s' := by
  have hreset : ∀ pending losses contents, Kept s (powerOnState pending losses contents) := fun _ _ _ =>
    kept_of_reset rfl (fun t => by rw [account_stake]; exact congrArg TagRecord.stake (tag_reset t))
      fun b => by rw [account_hold]; exact congrArg BranchPort.hold (port_reset b)
  unfold execPowerOn at hs'
  obtain rfl := Host.Outcome.next.inj hs'
  split <;> exact hreset _ _ _

theorem kept_execPowerLoss (hs' : execPowerLoss s = .next s') : Kept s s' := by
  unfold execPowerLoss at hs'
  obtain rfl := Host.Outcome.next.inj hs'
  split
  · exact kept_of_reset rfl (fun t => by rw [account_stake]; exact congrArg TagRecord.stake (tag_reset t))
      fun b => by rw [account_hold]; exact congrArg BranchPort.hold (port_reset b)
  · exact .refl s

theorem kept_softReset (u : State) : Kept s (softReset u) := by
  unfold softReset
  refine Kept.settle (kept_of_reset rfl (fun t => ?_) fun b => ?_)
  · rw [account_stake]
    exact congrArg TagRecord.stake (tag_reset t)
  · rw [account_hold]
    exact congrArg BranchPort.hold (port_reset b)

/-! ## The trunk line -/

theorem kept_detectBreak (s : State) : Kept s (detectBreak s) := by
  unfold detectBreak
  split
  · refine Kept.settle ⟨fun h => ?_, fun _ h => accountAgrees_breakEffects h⟩
    rw [rc_breakEffects]
    exact cacheSound_breakCache h
  · exact .refl s

theorem kept_execTransmissionEnd (hs' : execTransmissionEnd s = .next s') : Kept s s' := by
  refine kept_event ?_ hs'
  split
  case h_1 r rest _ hr =>
    split
    · exact kept_softReset _
    · refine ⟨id, fun hledger h => ?_⟩
      have hstate : (s.tag r.tag).state = .replying := ((tagsHeld_iff_agrees s).2 hledger).1.2 r (by simp [hr])
      have hfinish : (finishResponse r s).account = s.account :=
        (account_of_blocks (s := s.setTag r.tag TagRecord.blank) rfl rfl rfl).trans
          ((account_setTag ..).trans (Account.setStake_nothing (stake_of_state hstate (by decide) (by decide))))
      rwa [hfinish]
  case h_2 => exact .refl s

theorem kept_execLineReturnsToIdle (hs' : execLineReturnsToIdle s = .next s') : Kept s s' := by
  have hidle : ∀ u : State, (returnToIdle u).rc = u.rc ∧ (returnToIdle u).account = u.account := fun u =>
    ⟨by simp, account_of_blocks (by simp) (by simp) (by simp)⟩
  obtain ⟨hrc, haccount⟩ := hidle (detectBreak s)
  obtain ⟨hcache, hagrees⟩ := kept_detectBreak s
  exact kept_event ⟨fun h => by rw [hrc]; exact hcache h, fun hl h => by rw [haccount]; exact hagrees hl h⟩ hs'

/-! ## The Dispatcher and the Route Cache -/

theorem kept_execDispatch (hs' : execDispatch s = .next s') : Kept s s' := by
  refine kept_event ?_ hs'
  split
  · exact Kept.settle ⟨fun h => cacheSound_dispatchFrame (s := dropIntakeHead s) h _,
      fun _ h => accountAgrees_dispatchFrame (s := dropIntakeHead s) h _⟩
  · exact .refl s

theorem kept_execFillCompletion (hs' : execFillCompletion s = .next s') : Kept s s' := by
  refine kept_event ?_ hs'
  split
  · exact Kept.settle ⟨fun h => cacheSound_fillResult (s := freePort s) h _ _,
      fun hl h => accountAgrees_fillResult (s := freePort s) hl h _ _⟩
  · exact Kept.settle (kept_of_blocks rfl rfl rfl)
  · exact .refl s

theorem kept_execFillRefusal {i : SlotNo} (hs' : execFillRefusal i s = .next s') : Kept s s' := by
  refine kept_event ?_ hs'
  split
  · generalize hu : ({ s with ts := { s.ts with refusedFills := s.ts.refusedFills.erase i } } : State) = u
    have hrc : u.rc = s.rc := by rw [← hu]
    have hledger : u.ledger = s.ledger := by rw [← hu]; rfl
    have haccount : u.account = s.account := by rw [← hu]; rfl
    refine Kept.settle ⟨fun h => cacheSound_fillRefused (by rwa [hrc]) i, fun hl h => ?_⟩
    rwa [account_fillRefused (by rwa [hledger]), haccount]
  · exact .refl s

theorem kept_execChunkCompletion (hs' : execChunkCompletion s = .next s') : Kept s s' := by
  refine kept_event ?_ hs'
  split
  · exact Kept.settle ⟨fun h => cacheSound_chunkArrived (s := freePort s) h _ _ _,
      fun hl h => accountAgrees_chunkArrived (s := freePort s) hl h _ _ _⟩
  · exact Kept.settle (kept_of_blocks rfl rfl rfl)
  · exact .refl s

theorem kept_execLoaderReadCompletion (hs' : execLoaderReadCompletion s = .next s') : Kept s s' := by
  have happly : ∀ (u : State) record bad, Kept u (applyLoad record bad u) := fun u record bad =>
    kept_of_eq (by simp [applyLoad, reportInvalid, apply_ite])
      (account_congr (fun i => by simp [State.slot, applyLoad, reportInvalid, apply_ite])
        (fun t => by simp [State.tag, applyLoad, reportInvalid, apply_ite])
        fun b => by simp [State.port, applyLoad, reportInvalid, apply_ite, BranchPort.loaded, BranchPort.hold])
  refine kept_event ?_ hs'
  split
  · refine Kept.settle ?_
    unfold loaderArrived
    split
    · exact kept_of_blocks rfl rfl rfl
    · dsimp only
      split
      · obtain ⟨hcache, haccount⟩ := happly (writeChunk (Fin.ofNat 32 _) _ (freePort s)) _ _
        exact ⟨fun h => hcache h, fun hl h => haccount hl h⟩
      · exact kept_of_blocks rfl rfl rfl
  · exact .refl s

theorem kept_execProcessingEvent (hs' : execProcessingEvent s = .next s') : Kept s s' := by
  refine kept_event ?_ hs'
  split
  case h_1 d _ _ _ =>
    unfold processHead
    split
    · exact kept_of_blocks rfl rfl rfl
    · split
      · unfold performFence
        split
        · exact kept_of_blocks (by simp) (by simp) (by simp)
        · exact kept_of_blocks rfl rfl rfl
      · have hcompleted : (completeDescriptor d (performInvalidation d s)).account = s.account :=
          (account_of_blocks (s := performInvalidation d s) rfl rfl rfl).trans (account_performInvalidation d s)
        exact ⟨fun h => cacheSound_performInvalidation h d, fun _ h => by rwa [hcompleted]⟩
  case h_2 => exact .refl s

/-! ## The branch ports -/

theorem kept_execTakeHead {b : Branch} (hs' : execTakeHead b s = .next s') : Kept s s' := by
  refine kept_event ?_ hs'
  split
  case h_1 e rest _ hidle hqueue =>
    refine ⟨fun h => ?_, fun hl h => accountAgrees_takeEntry hl h hidle hqueue⟩
    rwa [(by simp : (takeEntry b e rest s).rc = s.rc)]
  case h_2 => exact .refl s

theorem kept_execBranchTransmissionEnd {b : Branch} {heard : List Byte}
    (hs' : execBranchTransmissionEnd b heard s = .next s') : Kept s s' := by
  refine kept_event ?_ hs'
  split
  case h_1 hx =>
    split
    · exact ⟨fun h => cacheSound_goodEcho h b _, fun hl h => accountAgrees_goodEcho hl h hx⟩
    · exact ⟨fun h => cacheSound_faultyEcho h b _, fun hl h => accountAgrees_faultyEcho hl h hx⟩
  case h_2 => exact .refl s

theorem kept_execTransmitWatchdogExpiry {b : Branch} (hs' : execTransmitWatchdogExpiry b s = .next s') : Kept s s' := by
  refine kept_event ?_ hs'
  split
  · exact ⟨fun h => cacheSound_shutDown h b _, fun hl h => accountAgrees_shutDown hl h b _⟩
  · exact .refl s

theorem kept_execResponseTimerExpiry {b : Branch} (hs' : execResponseTimerExpiry b s = .next s') : Kept s s' := by
  refine kept_event ?_ hs'
  split
  case h_1 x hx _ =>
    refine ⟨fun h => cacheSound_failAttempt (by rwa [count_rc, stopTimer, setPort_rc]) b x _, fun hl h => ?_⟩
    exact accountAgrees_failAttempt (by simpa using hl) (by simpa using h) (by simp [stopTimer, hx, ExchangeState.current]) _
  case h_2 => exact .refl s

theorem kept_execBranchFrameHeard {b : Branch} {bytes : List Byte} (hs' : execBranchFrameHeard b bytes s = .next s') :
    Kept s s' := by
  refine kept_event ?_ hs'
  split
  case h_1 hx => exact ⟨fun h => cacheSound_hearReply h b _ _, fun hl h => accountAgrees_hearReply hl h hx _⟩
  case h_2 => exact kept_of_blocks rfl rfl rfl
  case h_3 => exact .refl s

/-! ## Answers to management requests (R165) -/

theorem state_of_headTag (h : s.ledger.Agrees) {t : Tag} (ht : s.headTag = some t) : (s.tag t).state = .mgmt := by
  obtain ⟨e, hhead, he⟩ := Option.bind_eq_some_iff.1 ht
  obtain ⟨-, hstate⟩ : ManagementHeld s := ((tagsHeld_iff_agrees s).2 h).2.2.2.1
  exact hstate t (List.mem_filterMap.2 ⟨e, List.mem_of_mem_head? hhead, he⟩)

/-- The answer to the request at the head of the Management Queue leaves the account as it is. -/
theorem account_reply_headTag (h : s.ledger.Agrees) {t : Tag} (ht : s.headTag = some t) (c : ResultCode) (d : List Byte) :
    (reply t c d s).account = s.account := by
  rw [account_reply, Account.setStake_nothing (stake_of_state (state_of_headTag h ht) (by decide) (by decide))]

/-- A command leaves the slots, the recency order and what the ports hold as they are. -/
def Spares (s s' : State) : Prop := s'.rc = s.rc ∧ ∀ b, (s'.port b).hold = (s.port b).hold

theorem spares_of_blocks (hrc : s'.rc = s.rc) (hports : s'.ports = s.ports) : Spares s s' :=
  ⟨hrc, fun b => by rw [State.port, hports, State.port]⟩

theorem spares_reply {u : State} (hrc : u.rc = s.rc) (hports : u.ports = s.ports) (t : Tag) (c : ResultCode) (d : List Byte) :
    Spares s (reply t c d u) := spares_of_blocks (by simpa using hrc) (by simpa using hports)

theorem Spares.settle {u : State} (h : Spares s u) : Spares s (settle u) :=
  ⟨by simpa using h.1, fun b => by simpa [State.port] using h.2 b⟩

/-- A command that answers, and spares the slots and the ports. -/
theorem kept_of_answers {t : Tag} (ha : Answers t s s') (ht : s.headTag = some t) (hspares : Spares s s') : Kept s s' where
  cache h := by rwa [hspares.1]
  account hledger h := by
    obtain ⟨result, data, u, hu, -, hs'⟩ := ha
    have hutag : u.tag = s.tag := congrArg Ledger.record hu
    have htag : s'.tag = (reply t result data u).tag := congrArg Ledger.record hs'
    have hnothing : s.account.stake t = .nothing := stake_of_state (state_of_headTag hledger ht) (by decide) (by decide)
    have hstake : ∀ v, (s'.tag v).stake = (s.tag v).stake := fun v => by
      rw [htag, ← account_stake, account_reply]
      by_cases hvt : v = t
      · subst hvt
        rw [Account.setStake_stake_self]
        exact hnothing.symm
      · rw [Account.setStake_stake_ne _ _ hvt, account_stake, hutag]
    rwa [account_congr (fun i => by rw [State.slot, hspares.1, State.slot]) hstake hspares.2]

/-- A command executed from the head of the Management Queue keeps what its body keeps. -/
theorem kept_execCommand {code : Nat → Bool} {body : Tag → List Byte → State → State}
    (hs' : event s (whenCommand code body s) = .next s')
    (hbody : ∀ t params, s.headTag = some t → Kept s (body t params s)) : Kept s s' := by
  refine kept_event ?_ hs'
  unfold whenCommand
  split
  case h_1 t ht =>
    split
    · refine hbody t _ ?_
      unfold managementHead at ht
      split at ht
      case h_1 hq => simpa [State.headTag, hq, ManagementEntry.tag] using ht
      case h_2 => exact absurd ht (by simp)
    · exact .refl s
  case h_2 => exact .refl s

theorem kept_execAnswer {code : Nat → Bool} {body : Tag → List Byte → State → State}
    (hs' : event s (whenCommand code body s) = .next s') (hbody : ∀ t params, Answers t s (body t params s))
    (hspares : ∀ t params, Spares s (body t params s)) : Kept s s' :=
  kept_execCommand hs' fun t params ht => kept_of_answers (hbody t params) ht (hspares t params)

theorem kept_execPlain {code : Nat → Bool} {body : Tag → State → State}
    (hs' : event s (whenCommand code (withoutParameters body) s) = .next s') (hbody : ∀ t, Answers t s (body t s))
    (hspares : ∀ t, Spares s (body t s)) : Kept s s' :=
  kept_execCommand hs' fun t params ht => by
    unfold withoutParameters
    split
    · exact kept_of_answers (hbody t) ht (hspares t)
    · exact kept_of_answers (answers_reply ..) ht (spares_reply rfl rfl ..)

/-! ## The commands that answer -/

theorem spares_setConfigCommand (t : Tag) (params : List Byte) (s : State) : Spares s (setConfigCommand t params s) := by
  unfold setConfigCommand
  split <;> exact spares_reply rfl rfl ..

theorem spares_setEventMaskCommand (t : Tag) (params : List Byte) (s : State) :
    Spares s (setEventMaskCommand t params s) := by
  unfold setEventMaskCommand
  split <;> exact spares_reply rfl rfl ..

theorem spares_faultClearCommand (t : Tag) (params : List Byte) (s : State) :
    Spares s (faultClearCommand t params s) := by
  unfold faultClearCommand
  split <;> exact spares_reply rfl rfl ..

theorem spares_unitStatusReadCommand (t : Tag) (params : List Byte) (s : State) :
    Spares s (unitStatusReadCommand t params s) := by
  unfold unitStatusReadCommand
  dsimp only
  split <;> exact spares_reply rfl rfl ..

theorem spares_countersReadCommand (t : Tag) (params : List Byte) (s : State) :
    Spares s (countersReadCommand t params s) := by
  unfold countersReadCommand
  split <;> exact spares_reply rfl rfl ..

theorem spares_queueInvalidationCommand (t : Tag) (params : List Byte) (s : State) :
    Spares s (queueInvalidationCommand t params s) := by
  unfold queueInvalidationCommand
  dsimp only
  split
  · exact spares_reply rfl rfl ..
  · split <;> exact spares_reply rfl rfl ..

theorem spares_iqRecoverCommand (t : Tag) (s : State) : Spares s (iqRecoverCommand t s) := by
  unfold iqRecoverCommand
  split <;> exact spares_reply rfl rfl ..

theorem spares_writeEnableCommand (t : Tag) (s : State) : Spares s (writeEnableCommand t s) := by
  unfold writeEnableCommand
  split <;> exact spares_reply rfl rfl ..

theorem spares_operationCommand (t : Tag) (o : StoreOp) (refuses : Bool) (s : State) :
    Spares s (operationCommand t o refuses s) := by
  unfold operationCommand
  split
  · exact (spares_reply (by simp) (by simp) ..).settle
  · exact spares_reply rfl rfl ..
  · exact spares_reply rfl rfl ..

theorem spares_programCommand (t : Tag) (params : List Byte) (s : State) : Spares s (programCommand t params s) := by
  unfold programCommand
  split
  · exact spares_reply rfl rfl ..
  · exact spares_operationCommand ..

theorem spares_eraseCommand (t : Tag) (params : List Byte) (s : State) : Spares s (eraseCommand t params s) := by
  unfold eraseCommand
  split
  · exact spares_reply rfl rfl ..
  · exact spares_operationCommand ..

theorem spares_resumeCommand (t : Tag) (s : State) : Spares s (resumeCommand t s) := by
  unfold resumeCommand
  split
  · exact (spares_reply (by simp) (by simp) ..).settle
  · exact spares_reply rfl rfl ..

theorem spares_protectCommand (t : Tag) (params : List Byte) (s : State) : Spares s (protectCommand t params s) := by
  unfold protectCommand
  split
  · exact spares_reply rfl rfl ..
  · split
    · exact spares_reply rfl rfl ..
    · split <;> exact spares_reply rfl rfl ..

theorem spares_cacheReadCommand (t : Tag) (params : List Byte) (s : State) : Spares s (cacheReadCommand t params s) := by
  unfold cacheReadCommand
  split <;> exact spares_reply rfl rfl ..

theorem spares_startActivation (t : Tag) (s : State) : Spares s (startActivation t s) := by
  unfold startActivation
  split
  · exact spares_reply rfl rfl ..
  · refine Spares.settle ?_
    exact spares_reply rfl rfl ..

theorem spares_enableCommand (t : Tag) (b : Branch) (s : State) : Spares s (enableCommand t b s) := by
  unfold enableCommand
  split
  · exact spares_reply rfl rfl ..
  · exact spares_reply rfl rfl ..
  · refine ⟨by simp [replyPort], fun d => ?_⟩
    have hport : (replyPort t b (s.setPort b { s.port b with state := .enabled, echoFaults := 0 })).port d =
        (s.setPort b { s.port b with state := .enabled, echoFaults := 0 }).port d := by simp [replyPort, State.port]
    rw [hport, port_setPort]
    split
    case isTrue hdb => rw [hdb]; rfl
    case isFalse => rfl

/-! ## The commands that end transactions, and the command of two steps (R18, R70, R141) -/

theorem hold_disable (p : BranchPort) : p.disable.hold = p.hold := by
  have hlast : BranchPort.hold { p with state := .draining, exchange := p.exchange.lastAttempt } = p.hold := by
    unfold BranchPort.hold
    cases p.exchange <;> rfl
  unfold BranchPort.disable
  split
  · split
    · rfl
    · exact hlast
  · rfl
  · rfl

theorem kept_disableCommand {t : Tag} (ht : s.headTag = some t) (b : Branch) : Kept s (disableCommand t b s) := by
  have haccount : (s.setPort b (s.port b).disable).account = s.account := account_setPort_of_hold (hold_disable _)
  have hledger : (s.setPort b (s.port b).disable).ledger = s.ledger := ledger_setPort_of_claims (claims_disable _ _)
  have hcache : CacheSound s.rc → CacheSound (s.setPort b (s.port b).disable).rc := by rw [setPort_rc]; exact id
  unfold disableCommand replyPort
  dsimp only
  refine ⟨fun h => ?_, fun hl h => ?_⟩
  · rw [(by simp : ∀ (u : State) c d, (reply t c d u).rc = u.rc)]
    split
    · exact cacheSound_dropQueue (hcache h) b
    · exact hcache h
  · split
    · have hhead : (dropQueue b (s.setPort b (s.port b).disable)).headTag = some t := by simpa [State.headTag] using ht
      rw [account_reply_headTag (agrees_dropQueue (by rwa [hledger]) b) hhead]
      exact accountAgrees_dropQueue (by rwa [hledger]) (by rwa [haccount]) b
    · have hhead : (s.setPort b (s.port b).disable).headTag = some t := ht
      rw [account_reply_headTag (by rwa [hledger]) hhead, haccount]
      exact h

theorem kept_execPortControl {code : Nat → Bool} {action : PortAction} {body : Tag → Branch → State → State}
    (hs' : event s (whenCommand code (portControl action body) s) = .next s')
    (hbody : ∀ t b, s.headTag = some t → Kept s (body t b s)) : Kept s s' :=
  kept_execCommand hs' fun t params ht => by
    unfold portControl
    split
    · split
      · exact hbody t _ ht
      · exact .refl s
    · exact kept_of_answers (answers_reply ..) ht (spares_reply rfl rfl ..)

theorem kept_execActivatePolicy {code : Nat → Bool} {mode : ActivationMode} {body : Tag → State → State}
    (hs' : event s (whenCommand code (activatePolicy mode body) s) = .next s') (hbody : ∀ t, Answers t s (body t s))
    (hspares : ∀ t, Spares s (body t s)) : Kept s s' :=
  kept_execCommand hs' fun t params ht => by
    unfold activatePolicy
    split
    · split
      · exact kept_of_answers (hbody t) ht (hspares t)
      · exact .refl s
    · exact kept_of_answers (answers_reply ..) ht (spares_reply rfl rfl ..)

theorem kept_cancelCommand {t : Tag} (ht : s.headTag = some t) (params : List Byte) : Kept s (cancelCommand t params s) := by
  unfold cancelCommand
  split
  · exact kept_of_answers (answers_reply ..) ht (spares_reply rfl rfl ..)
  · generalize Fin.ofNat 16 (byteAt params 0).toNat = v
    refine ⟨fun h => ?_, fun hl h => ?_⟩
    · simpa using cacheSound_cancelTransaction h v
    · have hhead : (cancelTransaction v s).2.headTag = some t := by rwa [State.headTag, mu_cancelTransaction]
      dsimp only
      rw [account_reply_headTag (agrees_cancelTransaction hl v) hhead]
      exact accountAgrees_cancelTransaction h v

theorem kept_storeReadCommand {t : Tag} (ht : s.headTag = some t) (params : List Byte) :
    Kept s (storeReadCommand t params s) := by
  have hreply : ∀ c d, Kept s (reply t c d s) := fun c d => kept_of_answers (answers_reply ..) ht (spares_reply rfl rfl ..)
  unfold storeReadCommand
  dsimp only
  split
  · exact hreply ..
  · split
    · exact hreply ..
    · split
      · exact hreply ..
      · exact Kept.settle (kept_of_blocks rfl rfl rfl)

theorem kept_execStoreReadCompletion (hs' : execStoreReadCompletion s = .next s') : Kept s s' := by
  refine kept_event ?_ hs'
  split
  · refine Kept.settle ?_
    unfold finishStoreRead
    split
    case h_1 t _ hq =>
      have hhead : s.headTag = some t := by
        rw [freePort_mu] at hq
        simp [State.headTag, hq, ManagementEntry.tag]
      exact kept_of_answers (answers_after (ledger_freePort s) rfl) hhead (spares_reply rfl rfl ..)
    case h_2 => exact kept_of_blocks rfl rfl rfl
    case h_3 => exact kept_of_blocks rfl rfl rfl
  · exact Kept.settle (kept_of_blocks rfl rfl rfl)
  · exact .refl s

/-! ## Every command, and every step -/

/-- Every command of the opcode table keeps the cache sound and the account in agreement. -/
theorem kept_exec {c : Instr} (hs' : exec c s = .next s') : Kept s s' := by
  cases c with
  | powerOn => exact kept_execPowerOn hs'
  | powerLoss => exact kept_execPowerLoss hs'
  | lineEntersBreak received => exact kept_event (by split <;> exact kept_of_blocks rfl rfl rfl) hs'
  | lineReturnsToIdle => exact kept_execLineReturnsToIdle hs'
  | trunkBreak => exact kept_event (kept_detectBreak s) hs'
  | frameCompletion frame => exact kept_event (by split <;> exact kept_of_blocks (by simp) (by simp) (by simp)) hs'
  | dispatch => exact kept_execDispatch hs'
  | fillCompletion => exact kept_execFillCompletion hs'
  | fillRefusal slot => exact kept_execFillRefusal hs'
  | takeHead branch => exact kept_execTakeHead hs'
  | branchTransmissionEnd branch heard => exact kept_execBranchTransmissionEnd hs'
  | transmitWatchdogExpiry branch => exact kept_execTransmitWatchdogExpiry hs'
  | responseTimerExpiry branch => exact kept_execResponseTimerExpiry hs'
  | branchFrameHeard branch bytes => exact kept_execBranchFrameHeard hs'
  | startOfTransmission => exact kept_event (by split <;> exact kept_of_blocks rfl rfl rfl) hs'
  | transmissionEnd => exact kept_execTransmissionEnd hs'
  | operationCompletion => exact kept_event (by split <;> exact kept_of_blocks (by simp) (by simp) (by simp)) hs'
  | suspendEffective => exact kept_event (by split <;> exact kept_of_blocks (by simp) (by simp) (by simp)) hs'
  | holdoffExpiry => exact kept_event (by split <;> exact kept_of_blocks (by simp) (by simp) (by simp)) hs'
  | storeReadCompletion => exact kept_execStoreReadCompletion hs'
  | chunkCompletion => exact kept_execChunkCompletion hs'
  | loaderReadCompletion => exact kept_execLoaderReadCompletion hs'
  | intervalTimerExpiry => exact kept_event (by split <;> exact kept_of_blocks rfl rfl rfl) hs'
  | processingEvent => exact kept_execProcessingEvent hs'
  | identify => exact kept_execPlain hs' (fun t => answers_reply ..) fun t => spares_reply rfl rfl ..
  | readConfig => exact kept_execPlain hs' (fun t => answers_reply ..) fun t => spares_reply rfl rfl ..
  | setConfig => exact kept_execAnswer hs' (fun t params => answers_setConfigCommand ..) fun t params => spares_setConfigCommand ..
  | events =>
    exact kept_execPlain hs' (fun t => answers_after (u := clearLatches s) rfl rfl) fun t =>
      spares_reply (u := clearLatches s) rfl rfl ..
  | setEventMask =>
    exact kept_execAnswer hs' (fun t params => answers_setEventMaskCommand ..) fun t params => spares_setEventMaskCommand ..
  | faultRead => exact kept_execPlain hs' (fun t => answers_reply ..) fun t => spares_reply rfl rfl ..
  | faultClear =>
    exact kept_execAnswer hs' (fun t params => answers_faultClearCommand ..) fun t params => spares_faultClearCommand ..
  | changesRead =>
    exact kept_execPlain hs' (fun t => answers_after (u := { s with ust := s.ust.takeChanges }) rfl rfl) fun t =>
      spares_reply (u := { s with ust := s.ust.takeChanges }) rfl rfl ..
  | unitStatusRead =>
    exact kept_execAnswer hs' (fun t params => answers_unitStatusReadCommand ..) fun t params =>
      spares_unitStatusReadCommand ..
  | countersRead =>
    exact kept_execAnswer hs' (fun t params => answers_countersReadCommand ..) fun t params => spares_countersReadCommand ..
  | snapshot =>
    exact kept_execPlain hs' (fun t => answers_after (u := { s with pm := s.pm.snapshot }) rfl rfl) fun t =>
      spares_reply (u := { s with pm := s.pm.snapshot }) rfl rfl ..
  | portControlEnable =>
    exact kept_execPortControl hs' fun t b ht => kept_of_answers (answers_enableCommand t b s) ht (spares_enableCommand t b s)
  | portControlDisable => exact kept_execPortControl hs' fun t b ht => kept_disableCommand ht b
  | portControlReport =>
    exact kept_execPortControl hs' fun t b ht => kept_of_answers (answers_reply ..) ht (spares_reply rfl rfl ..)
  | cancel => exact kept_execCommand hs' fun t params ht => kept_cancelCommand ht params
  | queueInvalidation =>
    exact kept_execAnswer hs' (fun t params => answers_queueInvalidationCommand ..) fun t params =>
      spares_queueInvalidationCommand ..
  | iqStatus => exact kept_execPlain hs' (fun t => answers_reply ..) fun t => spares_reply rfl rfl ..
  | iqRecover => exact kept_execPlain hs' (fun t => answers_iqRecoverCommand ..) fun t => spares_iqRecoverCommand ..
  | storeWriteEnable =>
    exact kept_execPlain hs' (fun t => answers_writeEnableCommand ..) fun t => spares_writeEnableCommand ..
  | storeWriteDisable =>
    exact kept_execPlain hs' (fun t => answers_after (u := setWel false s) rfl rfl) fun t =>
      spares_reply (u := setWel false s) rfl rfl ..
  | storeProgram => exact kept_execAnswer hs' (fun t params => answers_programCommand ..) fun t params => spares_programCommand ..
  | storeErase => exact kept_execAnswer hs' (fun t params => answers_eraseCommand ..) fun t params => spares_eraseCommand ..
  | storeSuspend =>
    exact kept_execPlain hs'
      (fun t => answers_after (u := { s with ts := { s.ts with phase := s.ts.judgeSuspend.2 } }) rfl rfl) fun t =>
      spares_reply (u := { s with ts := { s.ts with phase := s.ts.judgeSuspend.2 } }) rfl rfl ..
  | storeResume => exact kept_execPlain hs' (fun t => answers_resumeCommand ..) fun t => spares_resumeCommand ..
  | storeRead => exact kept_execCommand hs' fun t params ht => kept_storeReadCommand ht params
  | storeStatus => exact kept_execPlain hs' (fun t => answers_reply ..) fun t => spares_reply rfl rfl ..
  | storeProtect => exact kept_execAnswer hs' (fun t params => answers_protectCommand ..) fun t params => spares_protectCommand ..
  | activatePolicyStart =>
    exact kept_execActivatePolicy hs' (fun t => answers_startActivation ..) fun t => spares_startActivation ..
  | activatePolicyReport => exact kept_execActivatePolicy hs' (fun t => answers_reply ..) fun t => spares_reply rfl rfl ..
  | cacheRead => exact kept_execAnswer hs' (fun t params => answers_cacheReadCommand ..) fun t params => spares_cacheReadCommand ..
  | resetBridge =>
    exact kept_execPlain hs' (fun t => answers_after (u := { s with mu := { s.mu with halted := some t } }) rfl rfl) fun t =>
      spares_reply (u := { s with mu := { s.mu with halted := some t } }) rfl rfl ..
  | unknownCommand => exact kept_execAnswer hs' (fun t params => answers_reply ..) fun t params => spares_reply rfl rfl ..

theorem kept_step (hs' : step s = .next s') : Kept s s' := by
  unfold step at hs'
  split at hs'
  case h_1 =>
    obtain rfl := Host.Outcome.next.inj hs'
    unfold tick
    split
    · exact kept_of_eq rfl (account_congr (fun i => rfl) (fun t => rfl)
        fun b => by simp [State.port, BranchPort.age, BranchPort.hold])
    · exact .refl s
  case h_2 c rest _ =>
    obtain ⟨hcache, haccount⟩ := kept_exec (s := s.withPending rest) hs'
    exact ⟨hcache, haccount⟩

end Sys2Proof.Machine

namespace Sys2Proof
open Sys2Proof.Machine

/-- Settles O58: where every tag is held as its record says, `ReferencesHeld` says that the account of the references agrees, and every command keeps the account and the cache. -/
theorem cacheIsKept : Obligations.CacheIsKept := by
  intro s s' hcache hstep
  refine ⟨(kept_step hstep).cache hcache, fun htags hrefs => ?_⟩
  have hledger : s.ledger.Agrees := (tagsHeld_iff_agrees s).1 htags
  have haccount := (kept_step hstep).account hledger ((referencesHeld_iff_agrees hledger).1 hrefs)
  exact (referencesHeld_iff_agrees (agrees_step hcache hledger hstep)).2 haccount

end Sys2Proof
end

section
/-!
CACHE-READ (O10): which parameters it accepts, and the run of slots that it reports (R46).
-/

namespace Sys2Proof.Machine

/-- A run of a list, place by place. -/
theorem take_drop_eq_map_range {α : Type} (l : List α) (d : α) {first n : Nat} (h : first + n ≤ l.length) :
    (l.drop first).take n = (List.range n).map fun k => l.getD (first + k) d := by
  refine List.ext_getElem (by simp; omega) fun k hk _ => ?_
  have hkn : k < n := by simp at hk; omega
  simp [List.getElem?_eq_getElem (show first + k < l.length by omega)]

theorem slotReport_empty : slotReport .empty = [0x00, 0, 0] := rfl

theorem slotReport_filling (u : Byte) (mark : Bool) (w : List Tag) :
    slotReport (.filling u mark w) = [if mark = true then 0x81 else 0x01, u, 0] := by
  cases mark <;> simp [slotReport, CacheSlot.marked, flagAt, CacheSlot.unit, CacheSlot.refs, byteOf]

theorem slotReport_valid (u : Byte) (r : Route) (n : Nat) : slotReport (.valid u r n) = [0x02, u, byteOf n] := by
  simp [slotReport, CacheSlot.marked, flagAt, CacheSlot.unit, CacheSlot.refs]

theorem slotReport_stale (u : Byte) (r : Route) (n : Nat) : slotReport (.stale u r n) = [0x03, u, byteOf n] := by
  simp [slotReport, CacheSlot.marked, flagAt, CacheSlot.unit, CacheSlot.refs]

/-- The reports of a run of slots, from the first upwards (R46). -/
theorem cacheReport_eq (c : RouteCache) {first n : Nat} (h : first + n ≤ 32) :
    cacheReport c first n = (List.range n).flatMap fun k => slotReport (c.slots.toList.getD (first + k) .empty) := by
  have hslots : (List.finRange 32).map (fun i => c.slots[i.val]) = c.slots.toList :=
    List.ext_getElem (by simp) fun k _ _ => by simp
  have hrun : (((List.finRange 32).drop first).take n).map (fun i => c.slots[i.val]) =
      (List.range n).map fun k => c.slots.toList.getD (first + k) .empty := by
    rw [List.map_take, List.map_drop, hslots]
    exact take_drop_eq_map_range _ _ (by simpa using h)
  calc cacheReport c first n
      = ((((List.finRange 32).drop first).take n).map fun i => c.slots[i.val]).flatMap slotReport := by
        rw [cacheReport, List.flatMap_map]
    _ = _ := by rw [hrun, List.flatMap_map]

/-- CACHE-READ accepts the two bytes of a run of 1 to 15 slots within the cache, and nothing else (R46). -/
theorem cacheReadRefused_eq_false_iff (params : List Byte) :
    cacheReadRefused params = false ↔
      ∃ first n : Nat, 1 ≤ n ∧ n ≤ 15 ∧ first + n ≤ 32 ∧ params = [byteOf first, byteOf n] := by
  constructor
  · intro h
    simp only [cacheReadRefused, Bool.or_eq_false_iff, bne_eq_false_iff_eq, decide_eq_false_iff_not, beq_eq_false_iff_ne] at h
    obtain ⟨⟨⟨⟨hlength, hfirst⟩, hzero⟩, hcount⟩, hrun⟩ := h
    obtain ⟨a, b, rfl⟩ := List.length_eq_two.1 hlength
    refine ⟨a.toNat, b.toNat, ?_⟩
    simp [byteAt] at hzero hcount hrun
    refine ⟨by omega, by omega, by omega, by simp [byteOf]⟩
  · rintro ⟨first, n, hn, hn', hrun, rfl⟩
    have hfirst : (byteOf first).toNat = first := by simp [byteOf]; omega
    have hcount : (byteOf n).toNat = n := by simp [byteOf]; omega
    simp [cacheReadRefused, byteAt, hfirst, hcount]
    omega

theorem exec_cacheRead {s : State} {t : Tag} {params : List Byte} (h : Ready s t 26 params) :
    exec .cacheRead s = .next
      (if cacheReadRefused params = true then answered t .badParameter [] s
      else answered t .accepted (cacheReport s.rc (byteAt params 0).toNat (byteAt params 1).toNat) s) := by
  have hunit : (s.tag t).unit = 0 := h.2.2.2.1
  calc exec .cacheRead s = .next (cacheReadCommand t params s) := by
        rw [exec, execCacheRead, event_of_powered h.1, whenCommand_of_ready h (by decide)]
    _ = _ := by rw [cacheReadCommand, reply_eq_answered hunit, reply_eq_answered hunit]

end Sys2Proof.Machine

namespace Sys2Proof
open Sys2Proof.Machine

/-- Settles O10, by whether the parameters name a run of slots. -/
theorem cacheReadAnswers : Obligations.CacheReadAnswers := by
  intro s t params hready
  rw [exec_cacheRead hready]
  refine ⟨fun first n hn hn' hrun hparams => ?_, fun hnone => ?_⟩
  · have haccepted := (cacheReadRefused_eq_false_iff params).2 ⟨first, n, hn, hn', hrun, hparams⟩
    have hfirst : (byteAt params 0).toNat = first := by simp [hparams, byteAt, byteOf]; omega
    have hcount : (byteAt params 1).toNat = n := by simp [hparams, byteAt, byteOf]; omega
    rw [haccepted, if_neg (by decide), hfirst, hcount, cacheReport_eq s.rc hrun]
    refine congrArg (fun data => Host.Outcome.next (answered t .accepted data s)) (List.flatMap_congr fun k _ => ?_)
    cases s.rc.slots.toList.getD (first + k) .empty with
    | empty => exact slotReport_empty
    | filling u mark w => exact slotReport_filling u mark w
    | valid u r refs => exact slotReport_valid u r refs
    | stale u r refs => exact slotReport_stale u r refs
  · have hrefused : cacheReadRefused params = true := by
      by_contra hne
      obtain ⟨first, n, hn, hn', hrun, hparams⟩ := (cacheReadRefused_eq_false_iff params).1 (by simpa using hne)
      exact hnone first n hn hn' hrun hparams
    rw [if_pos hrefused]

end Sys2Proof
end

section
/-!
Victims, invalidations, releases and the drain report of the Route Cache (O35).
-/

namespace Sys2Proof.Machine

/-! ## The victim of a miss (R32) -/

/-- The lowest slot that passes a test. -/
theorem find_finRange_eq_some {n : Nat} {p : Fin n → Bool} {i : Fin n} (hi : p i = true)
    (hlower : ∀ j, j < i → p j = false) : (List.finRange n).find? p = some i := by
  refine List.find?_eq_some_iff_getElem.2 ⟨hi, i.val, by simp, by simp, fun j hj => ?_⟩
  simpa using hlower ⟨j, hj.trans i.isLt⟩ hj

/-- No slot passes a test. -/
theorem find_slots_eq_none {l : List SlotNo} {p : SlotNo → Bool} (h : ∀ j, p j = false) : l.find? p = none :=
  List.find?_eq_none.2 fun j _ => by simp [h j]

theorem isEmpty_iff (c : CacheSlot) : c.isEmpty = true ↔ c = .empty := by
  cases c <;> simp [CacheSlot.isEmpty]

theorem isIdleValid_iff (c : CacheSlot) : c.isIdleValid = true ↔ ∃ u route, c = .valid u route 0 := by
  cases c <;> simp [CacheSlot.isIdleValid]

theorem isUnawaited_iff (c : CacheSlot) : c.isUnawaited = true ↔ ∃ u mark, c = .filling u mark [] := by
  cases c <;> simp [CacheSlot.isUnawaited]

theorem victim_eq (c : RouteCache) :
    c.victim =
      (((List.finRange 32).find? fun i => c.slots[i.val].isEmpty).or
        ((c.recency.reverse.find? fun i => c.slots[i.val].isIdleValid).or
          ((List.finRange 32).find? fun i => c.slots[i.val].isUnawaited))) := by
  simp only [RouteCache.victim, Option.orElse_eq_orElse, Option.orElse_eq_or]

theorem victim_of_empty {c : RouteCache} {i : SlotNo} (hi : c.slots[i.val] = .empty)
    (hlower : ∀ j : SlotNo, j < i → ¬ c.slots[j.val] = .empty) : c.victim = some i := by
  rw [victim_eq, find_finRange_eq_some ((isEmpty_iff _).2 hi) fun j hj => ?_, Option.some_or]
  exact Bool.eq_false_iff.2 fun h => hlower j hj ((isEmpty_iff _).1 h)

theorem find_isEmpty_eq_none {c : RouteCache} (h : ∀ j : SlotNo, ¬ c.slots[j.val] = .empty) :
    ((List.finRange 32).find? fun i => c.slots[i.val].isEmpty) = none :=
  find_slots_eq_none fun j => Bool.eq_false_iff.2 fun hj => h j ((isEmpty_iff _).1 hj)

theorem find_isIdleValid_eq_none {c : RouteCache} (h : ∀ j : SlotNo, ¬ ∃ u route, c.slots[j.val] = .valid u route 0) :
    (c.recency.reverse.find? fun i => c.slots[i.val].isIdleValid) = none :=
  find_slots_eq_none fun j => Bool.eq_false_iff.2 fun hj => h j ((isIdleValid_iff _).1 hj)

/-- The least recent slot is the last of the recency order (R33). -/
theorem victim_of_idle {c : RouteCache} {i : SlotNo} {before after : List SlotNo}
    (hempty : ∀ j : SlotNo, ¬ c.slots[j.val] = .empty) (hrecency : c.recency = before ++ i :: after)
    (hi : ∃ u route, c.slots[i.val] = .valid u route 0)
    (hafter : ∀ j ∈ after, ¬ ∃ u route, c.slots[j.val] = .valid u route 0) : c.victim = some i := by
  have hnone : (after.reverse.find? fun j => c.slots[j.val].isIdleValid) = none :=
    List.find?_eq_none.2 fun j hj h => hafter j (List.mem_reverse.1 hj) ((isIdleValid_iff _).1 h)
  have hfound : (c.recency.reverse.find? fun j => c.slots[j.val].isIdleValid) = some i := by
    rw [hrecency, List.reverse_append, List.reverse_cons, List.append_assoc, List.find?_append, hnone, Option.none_or,
      List.singleton_append, List.find?_cons_of_pos (p := fun j : SlotNo => c.slots[j.val].isIdleValid) ((isIdleValid_iff _).2 hi)]
  rw [victim_eq, find_isEmpty_eq_none hempty, Option.none_or, hfound, Option.some_or]

theorem victim_of_unawaited {c : RouteCache} {i : SlotNo} (hempty : ∀ j : SlotNo, ¬ c.slots[j.val] = .empty)
    (hidle : ∀ j : SlotNo, ¬ ∃ u route, c.slots[j.val] = .valid u route 0)
    (hi : ∃ u mark, c.slots[i.val] = .filling u mark [])
    (hlower : ∀ j : SlotNo, j < i → ¬ ∃ u mark, c.slots[j.val] = .filling u mark []) : c.victim = some i := by
  rw [victim_eq, find_isEmpty_eq_none hempty, find_isIdleValid_eq_none hidle, Option.none_or, Option.none_or]
  exact find_finRange_eq_some ((isUnawaited_iff _).2 hi) fun j hj =>
    Bool.eq_false_iff.2 fun h => hlower j hj ((isUnawaited_iff _).1 h)

theorem victim_eq_none {c : RouteCache} (hempty : ∀ j : SlotNo, ¬ c.slots[j.val] = .empty)
    (hidle : ∀ j : SlotNo, ¬ ∃ u route, c.slots[j.val] = .valid u route 0)
    (hunawaited : ∀ j : SlotNo, ¬ ∃ u mark, c.slots[j.val] = .filling u mark []) : c.victim = none := by
  rw [victim_eq, find_isEmpty_eq_none hempty, find_isIdleValid_eq_none hidle, Option.none_or, Option.none_or]
  exact find_slots_eq_none fun j => Bool.eq_false_iff.2 fun h => hunawaited j ((isUnawaited_iff _).1 h)

/-! ## The drain report (R44, R117) -/

/-- A slot holds the cache back from being drained when it is STALE, or FILLING with a refill mark (R44). -/
theorem undrained_eq (c : CacheSlot) : c.undrained = (c.isStale || c.marked) := by
  cases c <;> simp [CacheSlot.undrained, CacheSlot.isStale, CacheSlot.marked]

theorem drained_iff (c : RouteCache) :
    c.drained = true ↔ ∀ j : SlotNo, c.slots[j.val].isStale = false ∧ c.slots[j.val].marked = false := by
  simp [RouteCache.drained, undrained_eq]

theorem drainReport_of_not_waiting {s : State} (h : s.iqe.state ≠ .waitingFence) : drainReport s = s :=
  if_neg fun hwaits => h hwaits.1

theorem drainReport_of_undrained {s : State} (h : ∃ j : SlotNo, (s.slot j).isStale = true ∨ (s.slot j).marked = true) :
    drainReport s = s := by
  refine if_neg fun hdrained => ?_
  obtain ⟨j, hj⟩ := h
  obtain ⟨hstale, hmarked⟩ := (drained_iff s.rc).1 hdrained.2 j
  rcases hj with hj | hj
  · exact Bool.false_ne_true (hstale.symm.trans hj)
  · exact Bool.false_ne_true (hmarked.symm.trans hj)

theorem drainReport_of_drained {s : State} (hstate : s.iqe.state = .waitingFence)
    (h : ∀ j : SlotNo, (s.slot j).isStale = false ∧ (s.slot j).marked = false) : drainReport s = completeFence s :=
  if_pos ⟨hstate, (drained_iff s.rc).2 h⟩

end Sys2Proof.Machine

namespace Sys2Proof
open Sys2Proof.Machine

/-- Settles O35: the four rows of the victim, then an invalidation and a release by the state of the slot, then the drain report by the engine and by the slots. -/
theorem slotsChangeHands : Obligations.SlotsChangeHands := by
  refine ⟨fun c _ => ?_, fun s i => ?_⟩
  · exact ⟨fun i hi hlower => victim_of_empty hi hlower,
      fun i before after hempty hrecency hi hafter => victim_of_idle hempty hrecency hi hafter,
      fun i hempty hidle hi hlower => victim_of_unawaited hempty hidle hi hlower,
      fun hnone => victim_eq_none (fun j => (hnone j).1) (fun j => (hnone j).2.1) fun j => (hnone j).2.2⟩
  · intro slotBecomes leaves
    refine ⟨?_, ?_, drainReport_of_not_waiting, drainReport_of_undrained, fun d rest hstate hqueue hdrained => ?_⟩
    · unfold invalidateSlot
      cases s.slot i <;> rfl
    · unfold releaseReference
      cases s.slot i <;> rfl
    · rw [drainReport_of_drained hstate hdrained, completeFence, hqueue]
      cases rest <;> rfl

end Sys2Proof
end

section
/-!
FILL_COMPLETION and FILL_REFUSAL (O37): the result of a fill by the refill mark, the waiters and the decoded entry, and the refusal that reaches its slot (R35 to R39).
-/

namespace Sys2Proof.Machine

/-! ## FILL_COMPLETION (R35, R36, R38, R39) -/

theorem exec_fillCompletion_of_dropped {s : State} (hpowered : s.powered = true) {bytes : List Byte}
    (h : s.ts.reading = some { reader := .droppedFill, bytes := bytes }) :
    exec .fillCompletion s = .next (settle (freePort s)) := by
  rw [exec, execFillCompletion, event_of_powered hpowered, h]

theorem exec_fillCompletion_of_fill {s : State} (hpowered : s.powered = true) {i : SlotNo} {bytes : List Byte}
    (h : s.ts.reading = some { reader := .fill i, bytes := bytes }) :
    exec .fillCompletion s = .next (settle (fillResult i bytes (freePort s))) := by
  rw [exec, execFillCompletion, event_of_powered hpowered, h]

theorem fillResult_of_marked {s : State} {i : SlotNo} {unit : Byte} {waiters : List Tag}
    (h : s.slot i = .filling unit true waiters) (bytes : List Byte) :
    fillResult i bytes s = fillMarked i unit waiters s := by
  rw [fillResult, h]

theorem fillResult_of_present {s : State} {i : SlotNo} {unit : Byte} {waiters : List Tag} {bytes : List Byte} {route : Route}
    (h : s.slot i = .filling unit false waiters) (hentry : decodeRoute bytes = .present route) :
    fillResult i bytes s = fillPresent i unit route waiters s := by
  simp only [fillResult, h, hentry]

theorem fillResult_of_absent {s : State} {i : SlotNo} {unit : Byte} {waiters : List Tag} {bytes : List Byte}
    (h : s.slot i = .filling unit false waiters) (hentry : decodeRoute bytes = .absent) :
    fillResult i bytes s = fillWithout .noRoute i unit waiters s := by
  simp only [fillResult, h, hentry]

theorem fillResult_of_malformed {s : State} {i : SlotNo} {unit : Byte} {waiters : List Tag} {bytes : List Byte}
    (h : s.slot i = .filling unit false waiters) (hentry : decodeRoute bytes = .malformed) :
    fillResult i bytes s = fillWithout .routeMalformed i unit waiters s := by
  simp only [fillResult, h, hentry]

/-- A refill-marked slot with waiters is filled again, and one without becomes EMPTY; either is a drain event (R38). -/
theorem fillMarked_eq (i : SlotNo) (unit : Byte) (waiters : List Tag) (s : State) :
    fillMarked i unit waiters s =
      drainReport
        (if waiters = [] then s.setSlot i .empty else judgeFill i unit (s.setSlot i (.filling unit false waiters))) := by
  cases waiters <;> rfl

/-! ## FILL_REFUSAL (R37) -/

theorem exec_fillRefusal_of_mem {s : State} (hpowered : s.powered = true) {i : SlotNo} (h : i ∈ s.ts.refusedFills) :
    exec (.fillRefusal i) s =
      .next (settle (fillRefused i { s with ts := { s.ts with refusedFills := s.ts.refusedFills.erase i } })) := by
  rw [exec, execFillRefusal, event_of_powered hpowered, if_pos h]

theorem exec_fillRefusal_of_not_mem {s : State} {i : SlotNo} (hpowered : s.powered = true) (h : i ∉ s.ts.refusedFills) :
    exec (.fillRefusal i) s = .next s := by
  rw [exec, execFillRefusal, event_of_powered hpowered, if_neg h]

theorem fillRefused_of_filling {s : State} {i : SlotNo} {unit : Byte} {mark : Bool} {waiters : List Tag}
    (h : s.slot i = .filling unit mark waiters) :
    fillRefused i s =
      if mark = true then drainReport (endWaiters .storeBusy waiters (s.setSlot i .empty))
      else endWaiters .storeBusy waiters (s.setSlot i .empty) := by
  rw [fillRefused, h]

end Sys2Proof.Machine

namespace Sys2Proof
open Sys2Proof.Machine

/-- Settles O37: the completion by the refill mark and the decoded entry, then the refusal. -/
theorem fillsComplete : Obligations.FillsComplete := by
  refine ⟨fun s i bytes hpowered => ?_, fun s i hpowered => ?_⟩
  · intro freed slotBecomes ended
    refine ⟨fun hreading => exec_fillCompletion_of_dropped hpowered hreading, fun hreading unit waiters => ?_⟩
    rw [exec_fillCompletion_of_fill hpowered hreading]
    refine ⟨fun hslot => ?_, fun hslot => ?_⟩
    · rw [fillResult_of_marked (s := freePort s) hslot, fillMarked_eq]
      rfl
    · have hwithout : ∀ kind, fillWithout kind i unit waiters (freePort s) = ended kind unit waiters := fun kind => by
        cases waiters <;> rfl
      split
      case h_1 route hentry => rw [fillResult_of_present (s := freePort s) hslot hentry]; rfl
      case h_2 hentry => rw [fillResult_of_absent (s := freePort s) hslot hentry, hwithout]
      case h_3 hentry => rw [fillResult_of_malformed (s := freePort s) hslot hentry, hwithout]
  · refine ⟨exec_fillRefusal_of_not_mem hpowered, fun unit mark waiters hrefused hslot => ?_⟩
    intro ended
    rw [exec_fillRefusal_of_mem hpowered hrefused,
      fillRefused_of_filling (s := { s with ts := { s.ts with refusedFills := s.ts.refusedFills.erase i } }) hslot]
    rfl

end Sys2Proof
end

section
/-!
# What the stored records decode to (R25, R172, R179)

A route entry is present under its marker when its fields lie in their ranges; a configuration record is valid when its
check, its ranges, its protection fields and its content all are.
-/
namespace Sys2Proof.Machine

/-! ## The bits and the service code of a byte -/

theorem bitOf_zero (b : Byte) : bitOf 0 b = (b.toNat % 2 == 1) := by
  rw [bitOf, BitVec.getLsbD, Nat.testBit_eq_decide_div_mod_eq, pow_zero, Nat.div_one, beq_eq_decide]

theorem bitOf_one (b : Byte) : bitOf 1 b = (b.toNat / 2 % 2 == 1) := by
  rw [bitOf, BitVec.getLsbD, Nat.testBit_eq_decide_div_mod_eq, pow_one, beq_eq_decide]

theorem ofCode_of_service {b : Byte} (h : b = 1 ∨ b = 2 ∨ b = 3) :
    ServiceState.ofCode b = some (if b = 1 then .inService else if b = 2 then .oosLocal else .oosRefuse) := by
  rcases h with rfl | rfl | rfl <;> rfl

theorem ofCode_of_not_service {b : Byte} (h : ¬(b = 1 ∨ b = 2 ∨ b = 3)) : ServiceState.ofCode b = none := by
  obtain ⟨h1, h2, h3⟩ : b ≠ 1 ∧ b ≠ 2 ∧ b ≠ 3 := by simpa only [not_or] using h
  rw [ServiceState.ofCode, if_neg h1, if_neg h2, if_neg h3]

/-! ## A route entry -/

/-- The ranges of a route entry's coded fields (R25, R179). -/
def EntryInRange (e : List Byte) : Prop :=
  (byteAt e 1).toNat ≤ 3 ∧ 1 ≤ (byteAt e 2).toNat ∧ (byteAt e 2).toNat ≤ 62 ∧
  (byteAt e 3 = 1 ∨ byteAt e 3 = 2 ∨ byteAt e 3 = 3) ∧ (byteAt e 4).toNat ≤ 15 ∧ (byteAt e 5).toNat ≤ 63 ∧
  (byteAt e 6).toNat ≤ 3

/-- The route that a route entry's bytes give (R179). -/
def routeOfEntry (e : List Byte) : Route where
  branch := Fin.ofNat 4 (byteAt e 1).toNat
  physUnit := byteAt e 2
  service := if byteAt e 3 = 1 then .inService else if byteAt e 3 = 2 then .oosLocal else .oosRefuse
  policyClass := Fin.ofNat 16 (byteAt e 4).toNat
  offset := byteAt e 5
  timeoutClass := Fin.ofNat 4 (byteAt e 6).toNat
  conditioning := byteAt e 7
  absorb := (byteAt e 8).toNat % 2 == 1
  watch := (byteAt e 8).toNat / 2 % 2 == 1

theorem decodeFields_of_inRange {e : List Byte} (h : EntryInRange e) : decodeFields e = .present (routeOfEntry e) := by
  obtain ⟨hbranch, hlow, hhigh, hservice, hclass, hoffset, htimeout⟩ := h
  rw [decodeFields, ofCode_of_service hservice]
  simp only [hbranch, hlow, hhigh, hclass, hoffset, htimeout, and_self, if_true, routeOfEntry, bitOf_zero, bitOf_one]

theorem decodeFields_of_not_inRange {e : List Byte} (h : ¬EntryInRange e) : decodeFields e = .malformed := by
  by_cases hservice : byteAt e 3 = 1 ∨ byteAt e 3 = 2 ∨ byteAt e 3 = 3
  · rw [decodeFields, ofCode_of_service hservice]
    refine if_neg fun ⟨hbranch, hlow, hhigh, hclass, hoffset, htimeout⟩ => h ?_
    exact ⟨hbranch, hlow, hhigh, hservice, hclass, hoffset, htimeout⟩
  · rw [decodeFields, ofCode_of_not_service hservice]

theorem decodeRoute_of_absent {e : List Byte} (h : byteAt e 0 = 0xFF ∨ byteAt e 0 = 0x00) :
    decodeRoute e = .absent := by
  rw [decodeRoute, if_pos h]

theorem decodeRoute_of_inRange {e : List Byte} (hmarker : byteAt e 0 = 0xA5) (h : EntryInRange e) :
    decodeRoute e = .present (routeOfEntry e) := by
  rw [decodeRoute, if_neg (by rw [hmarker]; decide), if_pos hmarker, decodeFields_of_inRange h]

theorem decodeRoute_of_malformed {e : List Byte} (hstored : ¬(byteAt e 0 = 0xFF ∨ byteAt e 0 = 0x00))
    (h : ¬(byteAt e 0 = 0xA5 ∧ EntryInRange e)) : decodeRoute e = .malformed := by
  rw [decodeRoute, if_neg hstored]
  by_cases hmarker : byteAt e 0 = 0xA5
  · rw [if_pos hmarker, decodeFields_of_not_inRange fun hrange => h ⟨hmarker, hrange⟩]
  · rw [if_neg hmarker]

/-! ## The parts of a configuration record -/

/-- The check bytes at the end of a record are the check of the bytes before them, high byte first (R172, R176). -/
theorem drop_62_eq_bytesOfWord_iff {r : List Byte} (hlength : r.length = 64) (w : Word) :
    r.drop 62 = bytesOfWord w ↔ byteAt r 62 = byteOf (w.toNat / 256) ∧ byteAt r 63 = byteOf w.toNat := by
  have hdrop : r.drop 62 = [byteAt r 62, byteAt r 63] := by
    refine List.ext_getElem (by simp [hlength]) fun i hi _ => ?_
    have hcases : i = 0 ∨ i = 1 := by simp [hlength] at hi; omega
    rcases hcases with rfl | rfl <;> simp [byteAt, hlength]
  have hhigh : (w >>> 8).setWidth 8 = byteOf (w.toNat / 256) := by
    apply BitVec.eq_of_toNat_eq
    simp [byteOf, Nat.shiftRight_eq_div_pow]
  have hlow : w.setWidth 8 = byteOf w.toNat := by
    apply BitVec.eq_of_toNat_eq
    simp [byteOf]
  simp [hdrop, bytesOfWord, hhigh, hlow]

theorem recordInRange_iff (r : List Byte) :
    recordInRange r = true ↔
      (∀ n : Fin 4, (byteAt r (2 + n.val)).toNat ≤ 3 ∧ 1 ≤ (byteAt r (6 + n.val)).toNat ∧
        (byteAt r (6 + n.val)).toNat ≤ 15 ∧ 1 ≤ (byteAt r (10 + n.val)).toNat) ∧
      (byteAt r 14).toNat ≤ 15 := by
  simp only [recordInRange, Bool.and_eq_true, List.all_eq_true, List.mem_range, decide_eq_true_eq]
  constructor
  · rintro ⟨⟨⟨hretry, hecho⟩, htimeout⟩, hclass⟩
    exact ⟨fun n => ⟨hretry n n.isLt, (hecho n n.isLt).1, (hecho n n.isLt).2, htimeout n n.isLt⟩, hclass⟩
  · rintro ⟨hbranches, hclass⟩
    refine ⟨⟨⟨fun n hn => ?_, fun n hn => ?_⟩, fun n hn => ?_⟩, hclass⟩ <;>
      obtain ⟨hretry, hlow, hhigh, htimeout⟩ := hbranches ⟨n, hn⟩
    · exact hretry
    · exact ⟨hlow, hhigh⟩
    · exact htimeout

/-- A record is not wholly erased when one of its bytes is not the erased value. -/
theorem all_erased_eq_false_iff {r : List Byte} (hlength : r.length = 64) :
    r.all (· == Config.erasedValue) = false ↔ ∃ n : Fin 64, byteAt r n.val ≠ 0xFF := by
  have hbyte : ∀ n (hn : n < r.length), byteAt r n = r[n] := fun n hn => by simp [byteAt, hn]
  simp only [List.all_eq_false, beq_iff_eq, List.mem_iff_getElem]
  constructor
  · rintro ⟨b, ⟨n, hn, rfl⟩, hne⟩
    exact ⟨⟨n, hn.trans_eq hlength⟩, by rw [hbyte n hn]; exact hne⟩
  · rintro ⟨n, hne⟩
    have hn : n.val < r.length := n.isLt.trans_eq hlength.symm
    exact ⟨r[n.val], ⟨n.val, hn, rfl⟩, by rw [← hbyte n.val hn]; exact hne⟩

/-- Protection fields that are valid: kind NONE, or a range of sectors in order (R172). -/
def ProtectionValid (kind first last : Byte) : Prop :=
  kind.toNat = 0 ∨ (kind.toNat = 1 ∧ first.toNat ≤ last.toNat ∧ last.toNat ≤ 7)

theorem decodeProtection_of_valid {kind first last : Byte} (h : ProtectionValid kind first last) :
    decodeProtection kind first last =
      some (if kind.toNat = 0 then none else some (Fin.ofNat 8 first.toNat, Fin.ofNat 8 last.toNat)) := by
  rcases h with hnone | ⟨hrange, horder, hlast⟩
  · rw [decodeProtection, if_pos (BitVec.eq_of_toNat_eq hnone), if_pos hnone]
  · obtain rfl : kind = 1 := BitVec.eq_of_toNat_eq hrange
    rw [decodeProtection, if_neg (by decide), if_pos ⟨rfl, horder, hlast⟩, if_neg (by decide)]

theorem decodeProtection_of_not_valid {kind first last : Byte} (h : ¬ProtectionValid kind first last) :
    decodeProtection kind first last = none := by
  obtain ⟨hnone, hrange⟩ : kind.toNat ≠ 0 ∧ ¬(kind.toNat = 1 ∧ first.toNat ≤ last.toNat ∧ last.toNat ≤ 7) := by
    simpa only [ProtectionValid, not_or] using h
  rw [decodeProtection, if_neg (fun hzero => hnone (by rw [hzero]; rfl)),
    if_neg (fun ⟨hone, hlimits⟩ => hrange ⟨by rw [hone]; rfl, hlimits⟩)]

/-! ## A configuration record as a whole -/

/-- A record decodes when its protection fields, its check, its ranges and its content are valid, and its values are
those of its bytes (R172). -/
theorem decodeRecord_eq_some_iff (r : List Byte) (x : LoadedRecord) :
    decodeRecord r = some x ↔
      (ProtectionValid (byteAt r 17) (byteAt r 18) (byteAt r 19) ∧
        r.drop 62 = bytesOfWord (crc (r.take 62)) ∧ recordInRange r = true ∧
        r.all (· == Config.erasedValue) = false) ∧
      x = { values := recordValues r
              (if (byteAt r 17).toNat = 0 then none
                else some (Fin.ofNat 8 (byteAt r 18).toNat, Fin.ofNat 8 (byteAt r 19).toNat)),
            mask := byteAt r 16 } := by
  by_cases hprotection : ProtectionValid (byteAt r 17) (byteAt r 18) (byteAt r 19)
  · simp only [decodeRecord, decodeProtection_of_valid hprotection, Option.ite_none_right_eq_some, Option.some.injEq,
      hprotection, true_and, eq_comm (a := x)]
  · simp only [decodeRecord, decodeProtection_of_not_valid hprotection, hprotection, false_and, reduceCtorEq]

theorem decodeRecord_isSome_iff {r : List Byte} (hlength : r.length = 64) :
    (decodeRecord r).isSome = true ↔
      (byteAt r 62 = byteOf ((crc (r.take 62)).toNat / 256) ∧ byteAt r 63 = byteOf (crc (r.take 62)).toNat) ∧
      (∀ n : Fin 4, (byteAt r (2 + n.val)).toNat ≤ 3 ∧ 1 ≤ (byteAt r (6 + n.val)).toNat ∧
        (byteAt r (6 + n.val)).toNat ≤ 15 ∧ 1 ≤ (byteAt r (10 + n.val)).toNat) ∧
      (byteAt r 14).toNat ≤ 15 ∧
      ProtectionValid (byteAt r 17) (byteAt r 18) (byteAt r 19) ∧
      ∃ n : Fin 64, byteAt r n.val ≠ 0xFF := by
  simp only [Option.isSome_iff_exists, decodeRecord_eq_some_iff, exists_and_left, exists_eq, and_true,
    drop_62_eq_bytesOfWord_iff hlength, recordInRange_iff, all_erased_eq_false_iff hlength]
  tauto

/-- The values read from a record whose fields lie in their ranges are those of its bytes (R179). -/
theorem recordValues_of_inRange {r : List Byte} (h : recordInRange r = true) (protection : Option (Fin 8 × Fin 8)) :
    (∀ b : Branch,
      (recordValues r protection).enabled[b.val] = bitOf b.val (byteAt r 0) ∧
      (recordValues r protection).broadcast[b.val] = bitOf b.val (byteAt r 1) ∧
      (recordValues r protection).retryLimit[b.val].val = (byteAt r (2 + b.val)).toNat ∧
      (recordValues r protection).echoLimit[b.val].val = (byteAt r (6 + b.val)).toNat ∧
      (recordValues r protection).timeout[b.val] = byteAt r (10 + b.val)) ∧
    (recordValues r protection).broadcastClass.val = (byteAt r 14).toNat := by
  obtain ⟨hbranches, hclass⟩ := (recordInRange_iff r).mp h
  refine ⟨fun b => ?_, Nat.mod_eq_of_lt (Nat.lt_succ_of_le hclass)⟩
  obtain ⟨hretry, -, hecho, -⟩ := hbranches b
  simp [recordValues, Nat.mod_eq_of_lt (Nat.lt_succ_of_le hretry), Nat.mod_eq_of_lt (Nat.lt_succ_of_le hecho)]

end Sys2Proof.Machine

namespace Sys2Proof
open Sys2Proof.Machine

/-- Settles O36: the entry by its marker and its ranges, the record by its parts. -/
theorem storedRecordsDecode : Obligations.StoredRecordsDecode := by
  refine ⟨fun e _ => ?_, fun r hlength => ⟨decodeRecord_isSome_iff hlength, fun x hx => ?_⟩⟩
  · intro marker inRange
    split
    case isTrue habsent => exact decodeRoute_of_absent habsent
    case isFalse hstored =>
      split
      case isTrue hvalid =>
        obtain ⟨hmarker, hrange⟩ := hvalid
        exact decodeRoute_of_inRange hmarker hrange
      case isFalse hinvalid => exact decodeRoute_of_malformed hstored hinvalid
  · obtain ⟨⟨-, -, hrange, -⟩, rfl⟩ := (decodeRecord_eq_some_iff r x).mp hx
    obtain ⟨hbranches, hclass⟩ := recordValues_of_inRange hrange _
    exact ⟨rfl, hbranches, hclass, rfl, rfl, rfl⟩

end Sys2Proof
end

section
/-!
Policy activation: the report of the activation record (O12), its start (O27), and the chunks it writes into the image (O40) (R58 to R65).
-/

namespace Sys2Proof.Machine

/-! ## ACTIVATE-POLICY in its two modes (R58, R64) -/

theorem activatePolicy_of_mode {mode : ActivationMode} {params : List Byte} (h : decodeActivation params = some mode)
    (body : Tag → State → State) (t : Tag) (s : State) : activatePolicy mode body t params s = body t s := by
  simp only [activatePolicy, h, if_true]

theorem exec_activatePolicyReport {s : State} {t : Tag} (h : Ready s t 25 [2]) :
    exec .activatePolicyReport s = .next (answered t .accepted (activationReport s) s) := by
  have ⟨hpowered, _, _, hunit, _⟩ := h
  calc exec .activatePolicyReport s = .next (activatePolicy .report reportActivation t [2] s) := by
        rw [exec, execActivatePolicyReport, event_of_powered hpowered, whenCommand_of_ready h (by decide)]
    _ = .next (reportActivation t s) := by rw [activatePolicy_of_mode (by decide)]
    _ = _ := by rw [reportActivation, reply_eq_answered hunit]

theorem exec_activatePolicyStart {s : State} {t : Tag} (h : Ready s t 25 [1]) :
    exec .activatePolicyStart s = .next (startActivation t s) := by
  have ⟨hpowered, _⟩ := h
  calc exec .activatePolicyStart s = .next (activatePolicy .start startActivation t [1] s) := by
        rw [exec, execActivatePolicyStart, event_of_powered hpowered, whenCommand_of_ready h (by decide)]
    _ = _ := by rw [activatePolicy_of_mode (by decide)]

theorem activationRunning_iff (s : State) : activationRunning s = true ↔ s.pu.activation ≠ .idle := bne_iff_ne

/-! ## The report of the activation record (R64, R180) -/

theorem chunkInProgress_iff (s : State) :
    chunkInProgress s = true ↔ s.ts.reading.map (·.reader) = some .chunk := by
  unfold chunkInProgress
  cases s.ts.reading with
  | none => simp
  | some r => simp

/-- A suspension is owned AUTO in either phase (R125). -/
theorem owner_eq_auto_iff (p : SuspendPhase) :
    p.owner = some .auto ↔ p = .suspended .auto ∨ p = .suspending .auto := by
  cases p <;> simp [SuspendPhase.owner]

/-- The chunk read is store-blocked when it waits for an operation or for the end of an AUTO suspension (R64). -/
theorem storeBlocked_iff (s : State) :
    storeBlocked s = true ↔
      s.pu.activation ≠ .idle ∧ s.ts.reading.map (·.reader) ≠ some .chunk ∧
        (s.ts.active ≠ none ∨ s.ts.phase = .suspended .auto ∨ s.ts.phase = .suspending .auto) := by
  simp only [storeBlocked, Bool.and_eq_true, Bool.or_eq_true, Bool.not_eq_true', ← Bool.not_eq_true, beq_iff_eq,
    activationRunning_iff, chunkInProgress_iff, owner_eq_auto_iff, Option.isSome_iff_ne_none, and_assoc, ne_eq]

/-- The two bytes of a number, high byte first (R176). -/
theorem bytesOfWord_ofNat (n : Nat) : bytesOfWord (BitVec.ofNat 16 n) = [byteOf (n / 256), byteOf n] := by
  have hhigh : ((BitVec.ofNat 16 n) >>> 8).setWidth 8 = byteOf (n / 256) := by
    refine BitVec.eq_of_toNat_eq ?_
    simp only [byteOf, BitVec.toNat_setWidth, BitVec.toNat_ushiftRight, BitVec.toNat_ofNat, Nat.shiftRight_eq_div_pow]
    omega
  have hlow : (BitVec.ofNat 16 n).setWidth 8 = byteOf n := by
    refine BitVec.eq_of_toNat_eq ?_
    simp only [byteOf, BitVec.toNat_setWidth, BitVec.toNat_ofNat]
    omega
  rw [bytesOfWord, hhigh, hlow]

theorem activationReport_of_idle {s : State} (h : s.pu.activation = .idle) :
    activationReport s =
      [0, 0, 0, byteOf s.pu.held.length, s.pu.generation, byteOf (s.pu.undecodable / 256), byteOf s.pu.undecodable] := by
  have hblocked : storeBlocked s = false := Bool.eq_false_iff.2 fun hb => ((storeBlocked_iff s).1 hb).1 h
  rw [activationReport, hblocked, bytesOfWord_ofNat, h]
  rfl

theorem activationReport_of_running {s : State} {k : Fin 32} {bad : Nat} (h : s.pu.activation = .running k bad) :
    activationReport s =
      [1, byteOf k.val, flagByte (storeBlocked s), byteOf s.pu.held.length, s.pu.generation,
        byteOf (s.pu.undecodable / 256), byteOf s.pu.undecodable] := by
  rw [activationReport, bytesOfWord_ofNat, h]
  rfl

/-! ## The start of an activation (R58) -/

theorem startActivation_of_refused {s : State} {t : Tag} (hunit : (s.tag t).unit = 0)
    (h : s.pu.activation ≠ .idle ∨ s.ts.policyBusy = true) :
    startActivation t s = answered t .busy [s.pu.generation] s := by
  rw [startActivation, if_pos (by rwa [Bool.or_eq_true, activationRunning_iff]), reply_eq_answered hunit]

theorem startActivation_of_accepted {s : State} {t : Tag} (hunit : (s.tag t).unit = 0)
    (h : ¬ (s.pu.activation ≠ .idle ∨ s.ts.policyBusy = true)) :
    startActivation t s =
      settle (answered t .accepted [s.pu.generation] { s with pu := { s.pu with activation := .running 0 0 } }) := by
  rw [startActivation, if_neg (by rwa [Bool.or_eq_true, activationRunning_iff]),
    reply_eq_answered (s := { s with pu := { s.pu with activation := .running 0 0 } }) hunit]

/-! ## Chunk completions (R49, R60, R61, R65) -/

theorem exec_chunkCompletion_of_dropped {s : State} (hpowered : s.powered = true) {bytes : List Byte}
    (h : s.ts.reading = some { reader := .droppedChunk, bytes := bytes }) :
    exec .chunkCompletion s = .next (settle (freePort s)) := by
  rw [exec, execChunkCompletion, event_of_powered hpowered, h]

theorem exec_chunkCompletion_of_chunk {s : State} (hpowered : s.powered = true) {bytes : List Byte} {k : Fin 32} {bad : Nat}
    (h : s.ts.reading = some { reader := .chunk, bytes := bytes }) (hrunning : s.pu.activation = .running k bad) :
    exec .chunkCompletion s = .next (settle (chunkArrived k bad bytes (freePort s))) := by
  rw [exec, execChunkCompletion, event_of_powered hpowered, h, hrunning]

/-- The action at a channel of a chunk is its byte's, decoded (R49). -/
theorem decodeChunk_getElem (bytes : List Byte) (c : Fin 64) :
    (decodeChunk bytes)[c.val] = decodeAction (byteAt bytes c.val) := by
  simp [decodeChunk]

/-- The last chunk completes the activation (R61). -/
theorem chunkArrived_of_last (bad : Nat) (bytes : List Byte) (s : State) :
    chunkArrived 31 bad bytes s = completeActivation (bad + undecodableCount bytes) (writeChunk 31 bytes s) := rfl

/-- After a chunk that is not the last, the next one is due (R60). -/
theorem chunkArrived_of_not_last {k : Fin 32} (h : k ≠ 31) (bad : Nat) (bytes : List Byte) (s : State) :
    chunkArrived k bad bytes s =
      { s with
        pu :=
          { s.pu with
            image := s.pu.image.set k.val (decodeChunk bytes)
            activation := .running (k + 1) (bad + undecodableCount bytes) } } :=
  if_neg fun hk => h (Fin.ext hk)

end Sys2Proof.Machine

namespace Sys2Proof
open Sys2Proof.Machine

/-- Settles O12, by the activation state. -/
theorem activatePolicyReportAnswers : Obligations.ActivatePolicyReportAnswers := by
  intro s t hready
  rw [exec_activatePolicyReport hready]
  cases hactivation : s.pu.activation with
  | idle => rw [activationReport_of_idle hactivation]
  | running k bad =>
    have hblocked := storeBlocked_iff s
    simp only [hactivation, ne_eq, reduceCtorEq, not_false_eq_true, true_and] at hblocked
    simp only [activationReport_of_running hactivation, flagByte, hblocked, ne_eq]

/-- Settles O27: refused while an activation runs or an operation lies in a policy sector, and otherwise begun. -/
theorem activationStarts : Obligations.ActivationStarts := by
  intro s t hready inPolicy
  have ⟨_, _, _, hunit, _⟩ := hready
  have hinPolicy : ∀ o, inPolicy o = o.any (·.inPolicy) := fun o => by
    match o with
    | none => rfl
    | some ⟨.program _ _, _⟩ => rfl
    | some ⟨.erase _, _⟩ => rfl
  have hpolicyBusy : inPolicy s.ts.active = true ∨ inPolicy s.ts.suspended = true ↔ s.ts.policyBusy = true := by
    rw [hinPolicy, hinPolicy, TableStore.policyBusy, Bool.or_eq_true]
  have hrefuses := or_congr_right (a := s.pu.activation ≠ .idle) hpolicyBusy
  rw [exec_activatePolicyStart hready]
  split
  case isTrue hrefused => rw [startActivation_of_refused hunit (hrefuses.1 hrefused)]
  case isFalse haccepted => rw [startActivation_of_accepted hunit (mt hrefuses.2 haccepted)]

/-- Settles O40: a dropped result, then the chunk that is the last and the one that is not. -/
theorem chunksArrive : Obligations.ChunksArrive := by
  intro s bytes hpowered freed
  refine ⟨exec_chunkCompletion_of_dropped hpowered, fun k bad hreading hrunning => ?_⟩
  refine ⟨decodeChunk bytes, fun c => decodeChunk_getElem bytes c, ?_⟩
  rw [exec_chunkCompletion_of_chunk hpowered hreading hrunning]
  split
  case isTrue hlast => subst hlast; rw [chunkArrived_of_last]; rfl
  case isFalse hnot => rw [chunkArrived_of_not_last hnot]; rfl

end Sys2Proof
end

section
/-!
PORT-CONTROL: the report of a port (O11), ENABLE (O19) and DISABLE (O20), and the requests refused for their parameters or for a code that names no command (O13) (R64, R68 to R70, R166).
-/

namespace Sys2Proof.Machine

/-! ## A piece of State put back as it was -/

theorem setPort_port_self (s : State) (b : Branch) : s.setPort b (s.port b) = s := by
  have hports : s.ports.set b.val (s.port b) = s.ports := Vector.set_getElem_self _
  rw [State.setPort, hports]

theorem setPort_setPort_self (s : State) (b : Branch) (p q : BranchPort) :
    (s.setPort b p).setPort b q = s.setPort b q := by
  simp [State.setPort]

/-! ## The parameters of PORT-CONTROL and ACTIVATE-POLICY (R64, R68) -/

/-- The first parameter of PORT-CONTROL names its branch (R68). -/
theorem ofNat_byteOf_branch (b : Branch) : Fin.ofNat 4 (byteOf b.val).toNat = b := by
  ext
  simp only [byteOf, BitVec.toNat_ofNat, Fin.val_ofNat]
  omega

theorem decodePortControl_eq (b : Branch) (a : Byte) :
    decodePortControl [byteOf b.val, a] = (PortAction.ofCode a).map fun action => (b, action) := by
  have hbranch : (byteOf b.val).toNat ≤ 3 := by
    simp only [byteOf, BitVec.toNat_ofNat]
    omega
  calc decodePortControl [byteOf b.val, a]
      = (PortAction.ofCode a).map fun action => (Fin.ofNat 4 (byteOf b.val).toNat, action) := if_pos ⟨rfl, hbranch⟩
    _ = _ := by rw [ofNat_byteOf_branch]

/-- An action byte other than the three of PORT-CONTROL names no action (R180). -/
theorem portAction_ofCode_eq_none {a : Byte} (h : ¬ (a = 1 ∨ a = 2 ∨ a = 3)) : PortAction.ofCode a = none := by
  obtain ⟨henable, hdisable, hreport⟩ : a ≠ 1 ∧ a ≠ 2 ∧ a ≠ 3 := by simpa using h
  rw [PortAction.ofCode, if_neg henable, if_neg hdisable, if_neg hreport]

/-- PORT-CONTROL's parameters are refused unless they are a branch and one of the three actions (R68). -/
theorem decodePortControl_eq_none {params : List Byte}
    (h : ∀ (b : Branch) (a : Byte), (a = 1 ∨ a = 2 ∨ a = 3) → params ≠ [byteOf b.val, a]) :
    decodePortControl params = none := by
  unfold decodePortControl
  split
  case isFalse => rfl
  case isTrue hshape =>
    obtain ⟨hlength, hbranch⟩ := hshape
    obtain ⟨c, a, rfl⟩ := List.length_eq_two.1 hlength
    have hc : c.toNat ≤ 3 := hbranch
    have hparams : [c, a] = [byteOf c.toNat, a] := by simp [byteOf]
    have haction : ¬ (a = 1 ∨ a = 2 ∨ a = 3) := fun ha => h ⟨c.toNat, by omega⟩ a ha hparams
    show (PortAction.ofCode a).map _ = none
    rw [portAction_ofCode_eq_none haction, Option.map_none]

/-- ACTIVATE-POLICY's parameters are refused unless they are one of the two mode bytes (R64). -/
theorem decodeActivation_eq_none {params : List Byte} (hstart : params ≠ [1]) (hreport : params ≠ [2]) :
    decodeActivation params = none := by
  unfold decodeActivation
  split
  case isFalse => rfl
  case isTrue hlength =>
    obtain ⟨a, rfl⟩ := List.length_eq_one_iff.1 hlength
    have hstart' : byteAt [a] 0 ≠ 0x01 := fun ha => hstart (congrArg (fun c => [c]) ha)
    have hreport' : byteAt [a] 0 ≠ 0x02 := fun ha => hreport (congrArg (fun c => [c]) ha)
    rw [if_neg hstart', if_neg hreport']

/-! ## The rows of a command of several rows (R64, R68) -/

section Rows
variable {s : State} {t : Tag} {params : List Byte}

/-- The row of the action that the request names executes it. -/
theorem event_portControl {b : Branch} {a : Byte} {action : PortAction} (h : Ready s t 11 [byteOf b.val, a])
    (ha : PortAction.ofCode a = some action) (body : Tag → Branch → State → State) :
    event s (whenCommand (· == 11) (portControl action body) s) = .next (body t b s) := by
  have hdecode : decodePortControl [byteOf b.val, a] = some (b, action) := by rw [decodePortControl_eq, ha, Option.map_some]
  rw [event_of_powered h.1, whenCommand_of_ready h (by decide), portControl, hdecode]
  exact congrArg Host.Outcome.next (if_pos rfl)

/-- Any row of PORT-CONTROL refuses parameters that are not allowed (R68). -/
theorem event_portControl_refused (h : Ready s t 11 params) (hparams : decodePortControl params = none)
    (action : PortAction) (body : Tag → Branch → State → State) :
    event s (whenCommand (· == 11) (portControl action body) s) = .next (answered t .badParameter [] s) := by
  have ⟨hpowered, _, _, hunit, _⟩ := h
  rw [event_of_powered hpowered, whenCommand_of_ready h (by decide), portControl, hparams, ← reply_eq_answered hunit]

/-- Any row of ACTIVATE-POLICY refuses parameters that are not allowed (R64). -/
theorem event_activatePolicy_refused (h : Ready s t 25 params) (hparams : decodeActivation params = none)
    (mode : ActivationMode) (body : Tag → State → State) :
    event s (whenCommand (· == 25) (activatePolicy mode body) s) = .next (answered t .badParameter [] s) := by
  have ⟨hpowered, _, _, hunit, _⟩ := h
  rw [event_of_powered hpowered, whenCommand_of_ready h (by decide), activatePolicy, hparams, ← reply_eq_answered hunit]

/-- A code that names no command is answered with UNKNOWN-COMMAND (R166). -/
theorem exec_unknownCommand {code : Byte} (h : Ready s t code params) (hcode : 28 ≤ code.toNat) :
    exec .unknownCommand s = .next (answered t .unknownCommand [] s) := by
  have ⟨hpowered, _, _, hunit, _⟩ := h
  rw [exec, execUnknownCommand, event_of_powered hpowered, whenCommand_of_ready h (decide_eq_true hcode), unknownCommand,
    reply_eq_answered hunit]

end Rows

/-! ## The report of a port (R68, R180) -/

theorem portStateCode_eq (p : PortState) :
    p.code = match p with | .disabled => 0 | .enabled => 1 | .draining => 2 | .shutDown => 3 := by
  cases p <;> rfl

theorem exchangeStateCode_eq (e : ExchangeState) :
    e.code = match e with | .idle => 0 | .sending _ => 1 | .waiting _ => 2 := by
  cases e <;> rfl

/-- The kind of an exchange with the orphan flag at bit 7 (R180). -/
theorem exchangeKindByte_some (x : Exchange) :
    exchangeKindByte (some x) =
      byteOf ((match x.kind with | .unit => 1 | .member => 2) + (if x.orphan = true then 128 else 0)) := by
  rw [exchangeKindByte]
  cases x.kind <;> cases x.orphan <;> rfl

theorem setWidth_eq_byteOf (n : BitVec 4) : n.setWidth 8 = byteOf n.toNat := by
  refine BitVec.eq_of_toNat_eq ?_
  simp [byteOf]

/-! ## ENABLE and DISABLE (R69, R70) -/

theorem replyPort_eq_answered {s : State} {t : Tag} (h : (s.tag t).unit = 0) (b : Branch) :
    replyPort t b s = answered t .accepted (portReport (s.port b)) s := reply_eq_answered h _ _

theorem enableCommand_of_draining {s : State} {b : Branch} (t : Tag) (h : (s.port b).state = .draining) :
    enableCommand t b s = reply t .wrongState [] s := by
  rw [enableCommand, h]

theorem enableCommand_of_enabled {s : State} {b : Branch} (t : Tag) (h : (s.port b).state = .enabled) :
    enableCommand t b s = replyPort t b s := by
  rw [enableCommand, h]

theorem enableCommand_of_off {s : State} {b : Branch} (t : Tag)
    (h : (s.port b).state = .disabled ∨ (s.port b).state = .shutDown) :
    enableCommand t b s = replyPort t b (s.setPort b { s.port b with state := .enabled, echoFaults := 0 }) := by
  rcases h with h | h <;> rw [enableCommand, h]

theorem disable_of_enabled {p : BranchPort} (h : p.state = .enabled) :
    p.disable =
      { p with
        state := if p.exchange = .idle then .disabled else .draining
        exchange := p.exchange.lastAttempt } := by
  rw [BranchPort.disable, h]
  by_cases hidle : p.exchange = .idle
  · simp [hidle, ExchangeState.lastAttempt]
  · simp [hidle]

theorem disable_of_shutDown {p : BranchPort} (h : p.state = .shutDown) : p.disable = { p with state := .disabled } := by
  rw [BranchPort.disable, h]

theorem disable_of_other {p : BranchPort} (henabled : p.state ≠ .enabled) (hshut : p.state ≠ .shutDown) :
    p.disable = p := by
  unfold BranchPort.disable
  cases hstate : p.state with
  | enabled => exact absurd hstate henabled
  | shutDown => exact absurd hstate hshut
  | _ => rfl

/-- The removal of a queue, entry by entry, from a port just written (R70, R78). -/
theorem dropQueue_setPort (b : Branch) (p : BranchPort) (s : State) :
    dropQueue b (s.setPort b p) = p.queue.foldl (fun u e => dropEntry b e u) (s.setPort b { p with queue := [] }) := by
  rw [dropQueue, port_setPort_self, setPort_setPort_self]

/-- DISABLE replies with the port as it leaves it, the responses of the entries before its own (R70). -/
theorem disableCommand_eq {s left : State} {t : Tag} {b : Branch} (hunit : (s.tag t).unit = 0)
    (hleft : (if (s.port b).state = .enabled then dropQueue b (s.setPort b (s.port b).disable)
      else s.setPort b (s.port b).disable) = left) :
    disableCommand t b s = answered t .accepted (portReport (left.port b)) left := by
  have hkept : (left.tag t).unit = 0 := by
    rw [← hleft]
    split
    · rw [unit_dropQueue]; exact hunit
    · exact hunit
  rw [disableCommand]
  rw [hleft, replyPort_eq_answered hkept]

end Sys2Proof.Machine

namespace Sys2Proof
open Sys2Proof.Machine

/-- Settles O11, byte by byte. -/
theorem portControlReportAnswers : Obligations.PortControlReportAnswers := by
  refine ⟨fun p => ?_, fun s t b hready => ?_⟩
  · rw [portReport]
    simp only [portStateCode_eq, exchangeStateCode_eq, setWidth_eq_byteOf]
    cases p.exchange.current with
    | none => rfl
    | some x =>
      rw [exchangeKindByte_some]
      rfl
  · have ⟨_, _, _, hunit, _⟩ := hready
    exact (event_portControl hready rfl replyPort).trans (by rw [replyPort_eq_answered hunit])

/-- Settles O13: no row takes parameters that are not allowed for its own. -/
theorem refusedRequestsAreAnswered : Obligations.RefusedRequestsAreAnswered := by
  intro s t params
  refine ⟨fun hready hparams => ?_, fun hready hstart hreport => ?_,
    fun code hcode hready => exec_unknownCommand hready hcode⟩
  · have hrefused := event_portControl_refused hready (decodePortControl_eq_none hparams)
    exact ⟨hrefused .enable _, hrefused .disable _, hrefused .report _⟩
  · have hrefused := event_activatePolicy_refused hready (decodeActivation_eq_none hstart hreport)
    exact ⟨hrefused .start _, hrefused .report _⟩

/-- Settles O19, by the state of the port. -/
theorem portControlEnables : Obligations.PortControlEnables := by
  intro s t b hready p p'
  have ⟨_, _, _, hunit, _⟩ := hready
  refine (event_portControl hready rfl enableCommand).trans (congrArg _ ?_)
  by_cases hdraining : p.state = .draining
  · rw [if_pos hdraining, enableCommand_of_draining t hdraining, reply_eq_answered hunit]
  · rw [if_neg hdraining]
    by_cases hoff : p.state = .disabled ∨ p.state = .shutDown
    · have hp' : p' = { p with state := .enabled, echoFaults := 0 } := if_pos hoff
      rw [enableCommand_of_off t hoff, replyPort_eq_answered (by exact hunit), port_setPort_self, hp']
      rfl
    · have hp' : p' = p := if_neg hoff
      have henabled : p.state = .enabled := by
        cases hstate : p.state with
        | enabled => rfl
        | draining => exact absurd hstate hdraining
        | disabled => exact absurd (.inl hstate) hoff
        | shutDown => exact absurd (.inr hstate) hoff
      rw [enableCommand_of_enabled t henabled, replyPort_eq_answered hunit, hp']
      exact congrArg (answered t .accepted (portReport p)) (setPort_port_self s b).symm

/-- Settles O20, by the state of the port. -/
theorem portControlDisables : Obligations.PortControlDisables := by
  intro s t b hready p emptied left
  have ⟨_, _, _, hunit, _⟩ := hready
  refine (event_portControl hready rfl disableCommand).trans (congrArg _ (disableCommand_eq hunit ?_))
  by_cases henabled : p.state = .enabled
  · rw [if_pos henabled, disable_of_enabled henabled, dropQueue_setPort]
    simp only [left, henabled]
    rfl
  · rw [if_neg henabled]
    by_cases hshut : p.state = .shutDown
    · rw [disable_of_shutDown hshut]
      simp only [left, hshut]
      rfl
    · rw [disable_of_other henabled hshut, setPort_port_self]
      cases hstate : p.state with
      | enabled => exact absurd hstate henabled
      | shutDown => exact absurd hstate hshut
      | _ => simp only [left, hstate]

end Sys2Proof
end

section
/-!
The events of a branch port: the taking of the head (O43), the echo check (O44), the failure of an attempt (O45) and the shutdown (O47) (R72 to R82, R87).
-/

namespace Sys2Proof.Machine

theorem setTag_tag_self (s : State) (t : Tag) : s.setTag t (s.tag t) = s := by
  have htags : s.dsp.tags.set t.val (s.tag t) = s.dsp.tags := Vector.set_getElem_self _
  rw [State.setTag, htags]

/-! ## The beginning of an attempt (R75) -/

/-- An attempt begun at a port just written (R75). -/
theorem beginAttempt_setPort (b : Branch) (x : Exchange) (p : BranchPort) (s : State) :
    beginAttempt b x (s.setPort b p) =
      count (.branch b .exchanges)
        (s.setPort b
          { p with
            exchange := .sending (x.nextAttempt p.nextSeq)
            nextSeq := p.nextSeq + 1
            responseTimer := none
            watchdog := some 3000 }) := by
  rw [beginAttempt, port_setPort_self, setPort_setPort_self]
  rfl

/-! ## TAKE_HEAD (R72) -/

theorem exec_takeHead_of_entry {s : State} {b : Branch} {e : QueueEntry} {rest : List QueueEntry}
    (hpowered : s.powered = true) (hstate : (s.port b).state = .enabled) (hidle : (s.port b).exchange = .idle)
    (hqueue : (s.port b).queue = e :: rest) : exec (.takeHead b) s = .next (takeEntry b e rest s) := by
  rw [exec, execTakeHead, event_of_powered hpowered, hstate, hidle, hqueue]

/-- A port that is not ENABLED, or has an exchange or an empty queue, takes nothing (log 1). -/
theorem exec_takeHead_of_not {s : State} {b : Branch} (hpowered : s.powered = true)
    (h : (s.port b).state ≠ .enabled ∨ (s.port b).exchange ≠ .idle ∨ (s.port b).queue = []) :
    exec (.takeHead b) s = .next s := by
  rw [exec, execTakeHead, event_of_powered hpowered]
  congr 1
  split
  case h_1 hstate hidle hqueue => simp [hstate, hidle, hqueue] at h
  case h_2 => rfl

/-- The entry whose exchange can be formed leaves the queue, and its first attempt begins (R72, R73). -/
theorem takeEntry_of_formed {s : State} {b : Branch} {e : QueueEntry} {x : Exchange} (rest : List QueueEntry)
    (h : formExchange e (s.tag e.tag) = some x) :
    takeEntry b e rest s =
      beginAttempt b x ((s.setTag e.tag ((s.tag e.tag).taken e.kind)).setPort b { s.port b with queue := rest }) := by
  rw [takeEntry, h]

/-! ## BRANCH_TRANSMISSION_END (R79 to R82) -/

theorem commandHead_eq (seq : BitVec 4) : 0x50 ||| seq.setWidth 8 = byteOf (80 + seq.toNat) := by
  have hall : ∀ q : Fin 16, (0x50 : Byte) ||| (BitVec.ofFin q : BitVec 4).setWidth 8 = byteOf (80 + q.val) := by decide
  exact hall seq.toFin

/-- The command frame of an attempt, in the bytes of R178. -/
theorem commandFrame_eq (x : Exchange) :
    commandFrame x =
      withCheck
        ([byteOf (80 + x.seq.toNat), x.physUnit, x.op.code, x.physChannel, x.length] ++
          (if x.op = .read then [] else x.payload)) := by
  rw [commandFrame, commandHead_eq, Exchange.sentPayload]

section Echo
variable {s : State} {b : Branch} {x : Exchange} {heard : List Byte}

theorem exec_branchTransmissionEnd (hpowered : s.powered = true) (hsending : (s.port b).exchange = .sending x) :
    exec (.branchTransmissionEnd b heard) s = .next
      (if heard = commandFrame x then goodEcho b x s else faultyEcho b x s) := by
  rw [exec, execBranchTransmissionEnd, event_of_powered hpowered, hsending]

/-- A member has succeeded once its command frame is on the branch (R80). -/
theorem goodEcho_of_member (h : x.kind = .member) :
    goodEcho b x s =
      endExchange b x .portDown true none (s.setPort b { s.port b with watchdog := none, echoFaults := 0 }) := by
  rw [goodEcho, h]

/-- A unit exchange waits for its reply under the response timer of its class (R80, R82). -/
theorem goodEcho_of_unit {k : Fin 4} (h : x.kind = .unit) (hclass : x.timeoutClass = some k) :
    goodEcho b x s =
      s.setPort b
        { s.port b with
          watchdog := none
          echoFaults := 0
          exchange := .waiting x
          responseTimer := some (20 * s.config.timeout[k.val].toNat) } := by
  rw [goodEcho, h]
  dsimp only
  rw [port_setPort_self, setPort_setPort_self, responseTime, hclass]
  rfl

/-- A faulty echo is counted before the echo limit is consulted (R81). -/
theorem faultyEcho_eq :
    faultyEcho b x s =
      let faulty :=
        count (.branch b .echoFaults)
          (s.setPort b { s.port b with watchdog := none, echoFaults := (s.port b).echoFaults + 1 })
      if s.config.echoLimit[b.val].val ≤ (s.port b).echoFaults + 1 then shutDown b 1 faulty
      else failAttempt b x .unitError faulty := by
  simp only [faultyEcho, count_config, setPort_config, count_port, port_setPort_self, detailEcho]

end Echo

/-! ## The failure of an attempt (R76, R87) -/

theorem exec_responseTimerExpiry {s : State} {b : Branch} {x : Exchange} (hpowered : s.powered = true)
    (hwaiting : (s.port b).exchange = .waiting x) (htimer : (s.port b).responseTimer = some 0) :
    exec (.responseTimerExpiry b) s = .next (responseExpired b x s) := by
  rw [exec, execResponseTimerExpiry, event_of_powered hpowered, hwaiting, htimer]
  rfl

theorem cancelAsked_iff (x : Exchange) (s : State) :
    cancelAsked x s = true ↔ x.kind = .unit ∧ x.tag.map (fun t => (s.tag t).cancelPending) = some true := by
  rw [cancelAsked, Bool.and_eq_true, beq_iff_eq]
  cases x.tag <;> simp

/-- A retry is counted and begins at once (R75, R76). -/
theorem beginAttempt_of_retry (b : Branch) (x : Exchange) (s : State) :
    beginAttempt b x (count (.branch b .retries) s) =
      count (.branch b .exchanges)
        (count (.branch b .retries)
          (s.setPort b
            { s.port b with
              exchange := .sending { x with attempt := x.attempt + 1, seq := (s.port b).nextSeq }
              nextSeq := (s.port b).nextSeq + 1
              responseTimer := none
              watchdog := some 3000 })) := rfl

/-! ## The port after the ends of its exchange and of its entries (R70, R77, R78) -/

theorem port_endExchange (b : Branch) (x : Exchange) (c : EndCause) (ok : Bool) (st : Option Byte) (s : State) :
    (endExchange b x c ok st s).port b = (s.port b).ended := by
  have hports : (reportEnd b x c ok st s).port b = s.port b := by simp [State.port]
  rw [endExchange, port_setPort_self, hports]

theorem ports_dropQueue (b : Branch) (s : State) :
    (dropQueue b s).ports = (s.setPort b { s.port b with queue := [] }).ports :=
  foldl_keeps _ State.ports (fun u e => by simp) _ _

theorem port_dropQueue (b : Branch) (s : State) : (dropQueue b s).port b = { s.port b with queue := [] } := by
  rw [State.port, ports_dropQueue, ← State.port, port_setPort_self]

/-! ## The shutdown (R78, R79) -/

theorem exec_transmitWatchdogExpiry {s : State} {b : Branch} {x : Exchange} (hpowered : s.powered = true)
    (hsending : (s.port b).exchange = .sending x) (hwatchdog : (s.port b).watchdog = some 0) :
    exec (.transmitWatchdogExpiry b) s = .next (shutDown b 2 s) := by
  rw [exec, execTransmitWatchdogExpiry, event_of_powered hpowered, hsending, hwatchdog]
  rfl

/-- The port is SHUT-DOWN and its exchange, if there is one, has ended PORT-DOWN: a shutdown before its queue is emptied (R78). -/
def shutExchange (b : Branch) (s : State) : State :=
  let shut := s.setPort b { s.port b with state := .shutDown }
  match (s.port b).exchange with
  | .idle => shut
  | .sending x => endExchange b x .portDown false none shut
  | .waiting x => endExchange b x .portDown false none shut

/-- The port of a shutdown before its queue is emptied: IDLE, and its timers stopped if it had an exchange (R77, R78). -/
theorem port_shutExchange (b : Branch) (s : State) :
    (shutExchange b s).port b =
      { s.port b with
        state := .shutDown
        exchange := .idle
        responseTimer := if (s.port b).exchange = .idle then (s.port b).responseTimer else none
        watchdog := if (s.port b).exchange = .idle then (s.port b).watchdog else none } := by
  unfold shutExchange
  cases hexchange : (s.port b).exchange with
  | idle => simp [hexchange]
  | sending x => simp [port_endExchange, BranchPort.ended]
  | waiting x => simp [port_endExchange, BranchPort.ended]

/-- A shutdown ends the exchange, then the entries, and then records and latches PORT-SHUT (R78). -/
theorem shutDown_eq (b : Branch) (detail : Byte) (s : State) :
    shutDown b detail s =
      latchPortShut
        (recordFault { FaultRecord.plain .portShut with branch := some b, detail := detail }
          (dropQueue b (shutExchange b s))) := by
  unfold shutDown shutExchange
  dsimp only
  rw [port_setPort_self]
  cases (s.port b).exchange <;> rfl

theorem queue_shutExchange (b : Branch) (s : State) : ((shutExchange b s).port b).queue = (s.port b).queue := by
  rw [port_shutExchange]

theorem port_shutDown (b : Branch) (detail : Byte) (s : State) :
    (shutDown b detail s).port b = { (shutExchange b s).port b with queue := [] } := by
  rw [← port_dropQueue, shutDown_eq]
  rfl

end Sys2Proof.Machine

namespace Sys2Proof
open Sys2Proof.Machine

/-- Settles O43, by the kind of the head entry. -/
theorem headsAreTaken : Obligations.HeadsAreTaken := by
  intro s b hpowered p begun
  refine ⟨exec_takeHead_of_not hpowered, fun t rest hstate hidle =>
    ⟨fun f op hqueue hfacts hop => ?_, fun hqueue => ?_⟩⟩
  · have hformed : formExchange { tag := t, kind := .unit } (s.tag t) =
        some
          { kind := .unit, orphan := false, tag := some t, physUnit := f.physUnit, op := op
            physChannel := f.physChannel, length := (s.tag t).length, payload := (s.tag t).payload
            timeoutClass := some f.timeoutClass, slot := (s.tag t).slot, attempt := 0, seq := 0, last := false } := by
      simp [formExchange, hfacts, hop]
    rw [exec_takeHead_of_entry hpowered hstate hidle hqueue, takeEntry_of_formed rest hformed, beginAttempt_setPort]
    rfl
  · have hformed : formExchange { tag := t, kind := .member } (s.tag t) =
        some
          { kind := .member, orphan := false, tag := some t, physUnit := 63, op := .write
            physChannel := (s.tag t).channel, length := (s.tag t).length, payload := (s.tag t).payload
            timeoutClass := none, slot := none, attempt := 0, seq := 0, last := false } := rfl
    have htaken : s.setTag t ((s.tag t).taken .member) = s := setTag_tag_self s t
    rw [exec_takeHead_of_entry hpowered hstate hidle hqueue, takeEntry_of_formed rest hformed, htaken,
      beginAttempt_setPort]
    rfl

/-- Settles O44, by whether the bytes heard are the command frame and by the kind of the exchange. -/
theorem echoesAreJudged : Obligations.EchoesAreJudged := by
  intro s b heard x hpowered hsending p frame becomes faulty
  have hframe : commandFrame x = frame := commandFrame_eq x
  rw [exec_branchTransmissionEnd hpowered hsending, hframe]
  refine ⟨fun hgood hmember => ?_, fun k hgood hunit hclass => ?_, fun hfaulty => ?_⟩
  · rw [if_pos hgood, goodEcho_of_member hmember]
    rfl
  · rw [if_pos hgood, goodEcho_of_unit hunit hclass]
    rfl
  · rw [if_neg hfaulty, faultyEcho_eq]
    rfl

/-- Settles O45: the expiry fails the attempt, and a failed attempt goes by the conditions of R76. -/
theorem attemptsFail : Obligations.AttemptsFail := by
  refine ⟨fun s b x hpowered hwaiting htimer => exec_responseTimerExpiry hpowered hwaiting htimer, fun s b x cause => ?_⟩
  rw [failAttempt, beginAttempt_of_retry]
  simp only [cancelAsked_iff]
  rfl

/-- Settles O47: the exchange ends before the entries, and both before the fault is recorded. -/
theorem portsShutDown : Obligations.PortsShutDown := by
  refine ⟨fun s b x hpowered hsending hwatchdog => exec_transmitWatchdogExpiry hpowered hsending hwatchdog,
    fun s b detail => ?_⟩
  intro shut ended emptied
  have hended : shutExchange b s = ended := rfl
  have hemptied : dropQueue b (shutExchange b s) = emptied := by
    rw [dropQueue, queue_shutExchange, hended]
    rfl
  refine ⟨?_, ?_⟩
  · rw [shutDown_eq, hemptied]
    rfl
  · rw [port_shutDown, port_shutExchange]

end Sys2Proof
end

section
/-!
BRANCH_FRAME_HEARD (O46): which frames are well-formed replies to the current attempt, and what a frame does in each exchange state (R83 to R86, R178).
-/

namespace Sys2Proof.Machine

/-! ## The fields of a frame heard (R158, R176, R178) -/

/-- The last two bytes of a frame are its check, high byte first (R158, R176). -/
theorem checkMatches_iff {frame : List Byte} (h : 2 ≤ frame.length) :
    checkMatches frame = true ↔
      frame.drop (frame.length - 2) =
        [byteOf ((crc (frameBody frame)).toNat / 256), byteOf (crc (frameBody frame)).toNat] := by
  rw [checkMatches, ← bytesOfWord_ofNat, BitVec.ofNat_toNat, BitVec.setWidth_eq]
  simp [h]

/-- The kind of a reply frame is the upper half of its first byte (R178). -/
theorem shiftRight_four_eq_six_iff (b : Byte) : b >>> 4 = 6 ↔ b.toNat / 16 = 6 := by
  rw [← BitVec.toNat_inj, BitVec.toNat_ushiftRight, Nat.shiftRight_eq_div_pow]
  rfl

/-- The sequence of a reply frame is the lower half of its first byte (R178). -/
theorem setWidth_four_eq_iff (b : Byte) (seq : BitVec 4) : b.setWidth 4 = seq ↔ b.toNat % 16 = seq.toNat := by
  rw [← BitVec.toNat_inj, BitVec.toNat_setWidth]

/-- An ACK to a READ or an EXCHANGE carries the bytes asked for, every other reply none (R83, check 5). -/
theorem replyLength_eq (x : Exchange) (code : Byte) :
    x.replyLength code = if code = 0 ∧ (x.op = .read ∨ x.op = .exchange) then x.length.toNat else 0 := by
  unfold Exchange.replyLength
  by_cases hcode : code = 0
  · rw [if_pos hcode]
    cases x.op <;> simp [hcode]
  · rw [if_neg hcode, if_neg fun h => hcode h.1]

/-! ## The judgement of a reply (R83) -/

/-- Checks 1 to 5 of R83, in the bytes of the frame: `replyAcceptable` as a proposition. -/
def ReplyAcceptable (x : Exchange) (frame : List Byte) : Prop :=
  7 ≤ frame.length ∧
  frame.drop (frame.length - 2) =
    [byteOf ((crc (frameBody frame)).toNat / 256), byteOf (crc (frameBody frame)).toNat] ∧
  (frame.getD 0 0).toNat / 16 = 6 ∧
  (frame.getD 2 0 = 0 ∨ frame.getD 2 0 = 1 ∨ frame.getD 2 0 = 2) ∧
  frame.getD 1 0 = x.physUnit ∧
  frame.length = (frame.getD 4 0).toNat + 7 ∧
  (frame.getD 4 0).toNat =
    if frame.getD 2 0 = 0 ∧ (x.op = .read ∨ x.op = .exchange) then x.length.toNat else 0

/-- The fields of a frame of 7 bytes or more stand before its check. -/
theorem byteAt_frameBody_of_long {frame : List Byte} (hlength : 7 ≤ frame.length) {i : Nat} (hi : i ≤ 4) :
    byteAt (frameBody frame) i = frame.getD i 0 := by
  rw [byteAt_frameBody, if_pos (by omega)]

theorem replyAcceptable_iff (x : Exchange) (frame : List Byte) :
    replyAcceptable x frame = true ↔ ReplyAcceptable x frame := by
  unfold replyAcceptable ReplyAcceptable
  dsimp only
  by_cases hlength : 7 ≤ frame.length
  · have hfield := fun i (hi : i ≤ 4) => byteAt_frameBody_of_long hlength hi
    rw [hfield 0 (by omega), hfield 1 (by omega), hfield 2 (by omega), hfield 4 (by omega)]
    have hmin : decide (Config.branchFrameMin ≤ frame.length) = true := decide_eq_true hlength
    simp only [hmin, hlength, Bool.and_eq_true, Bool.or_eq_true, beq_iff_eq, true_and, shiftRight_four_eq_six_iff,
      checkMatches_iff (by omega : 2 ≤ frame.length), replyLength_eq, and_assoc, or_assoc]
  · simp [hlength, Config.branchFrameMin]

section Judged
variable {x : Exchange} {frame : List Byte}

theorem judgeReply_of_bad (h : ¬ ReplyAcceptable x frame) : judgeReply x frame = .bad :=
  if_neg (mt (replyAcceptable_iff x frame).1 h)

/-- The sequence of an acceptable reply is compared with that of the attempt (R83, check 6). -/
theorem judgeReply_of_acceptable (h : ReplyAcceptable x frame) :
    judgeReply x frame =
      if (frame.getD 0 0).toNat % 16 = x.seq.toNat then
        .wellFormed (frame.getD 2 0) (frame.getD 3 0) ((frame.drop 5).take (frame.getD 4 0).toNat)
      else .late := by
  have ⟨hlong, _, _, _, _, hlength, _⟩ := h
  have hpayload : (frameBody frame).drop 5 = (frame.drop 5).take (frame.getD 4 0).toNat := by
    rw [frameBody, List.drop_take, show frame.length - 2 - 5 = (frame.getD 4 0).toNat by omega]
  have hfield := fun i (hi : i ≤ 4) => byteAt_frameBody_of_long hlong hi
  simp only [judgeReply, (replyAcceptable_iff x frame).2 h, if_true, hpayload, hfield 0 (by omega), hfield 2 (by omega),
    hfield 3 (by omega), setWidth_four_eq_iff]

end Judged

/-! ## The event by the exchange state (R83, R85) -/

section HeardFrames
variable {s : State} {b : Branch} {frame : List Byte}

theorem exec_branchFrameHeard_of_idle (hpowered : s.powered = true) (h : (s.port b).exchange = .idle) :
    exec (.branchFrameHeard b frame) s = .next (count (.branch b .lateReplies) s) := by
  rw [exec, execBranchFrameHeard, event_of_powered hpowered, h]

theorem exec_branchFrameHeard_of_sending {x : Exchange} (hpowered : s.powered = true)
    (h : (s.port b).exchange = .sending x) : exec (.branchFrameHeard b frame) s = .next s := by
  rw [exec, execBranchFrameHeard, event_of_powered hpowered, h]

theorem exec_branchFrameHeard_of_waiting {x : Exchange} (hpowered : s.powered = true)
    (h : (s.port b).exchange = .waiting x) :
    exec (.branchFrameHeard b frame) s = .next (hearReply b x (judgeReply x frame) s) := by
  rw [exec, execBranchFrameHeard, event_of_powered hpowered, h]

end HeardFrames

end Sys2Proof.Machine

namespace Sys2Proof
open Sys2Proof.Machine

/-- Settles O46, by the exchange state and, in WAITING, by the judgement of the frame. -/
theorem repliesAreJudged : Obligations.RepliesAreJudged := by
  intro s b frame hpowered p
  refine ⟨fun hidle => exec_branchFrameHeard_of_idle hpowered hidle,
    fun x hsending => exec_branchFrameHeard_of_sending hpowered hsending, fun x hwaiting => ?_⟩
  intro field checked code length stopped acceptable
  rw [exec_branchFrameHeard_of_waiting hpowered hwaiting]
  refine ⟨fun hbad => ?_, fun hacceptable hseq => ?_, fun hacceptable hseq => ?_⟩
  · rw [judgeReply_of_bad hbad]
    rfl
  · rw [judgeReply_of_acceptable hacceptable, if_neg hseq]
    rfl
  · rw [judgeReply_of_acceptable hacceptable, if_pos hseq]
    rfl

end Sys2Proof
end

section
/-!
UNIT-STATUS-READ (O6): the units that its parameter names, and the report of a unit's record (R93, R100).
-/

namespace Sys2Proof.Machine

/-- The bytes from 1 to 239 are the units (R93). -/
theorem exists_eq_byteOf {u : Byte} (h : isUnit u = true) : ∃ i : Fin 239, u = byteOf (i.val + 1) := by
  by_contra hnone
  have hfalse : isUnit u = false := isUnit_eq_false (not_exists.1 hnone)
  exact absurd h (by simp [hfalse])

/-- Two units with one code are one unit. -/
theorem byteOf_unit_injective {i j : Fin 239} (h : byteOf (i.val + 1) = byteOf (j.val + 1)) : i = j :=
  Option.some.inj ((unitIndex_byteOf i).symm.trans ((congrArg unitIndex h).trans (unitIndex_byteOf j)))

/-- Two flags at the two low bits of a byte, as a number (R176). -/
theorem flagAt_or_flagAt (a b : Bool) :
    flagAt 0 a ||| flagAt 1 b = byteOf ((if a = true then 1 else 0) + (if b = true then 2 else 0)) := by
  cases a <;> cases b <;> rfl

/-- The report of a unit's record, byte by byte (R100, R180). -/
theorem unitReport_eq (u : Byte) (r : UnitRecord) :
    unitReport u r =
      [u, lastOutcomeCode r.lastOutcome,
        byteOf ((if r.status.isSome = true then 1 else 0) + (if r.changed = true then 2 else 0)), r.status.getD 0] := by
  rw [unitReport, flagAt_or_flagAt]

section UnitStatusRead
variable {s : State} {t : Tag} {params : List Byte}

theorem exec_unitStatusRead (h : Ready s t 8 params) :
    exec .unitStatusRead s = .next (unitStatusReadCommand t params s) := by
  have ⟨hpowered, _⟩ := h
  rw [exec, execUnitStatusRead, event_of_powered hpowered, whenCommand_of_ready h (by decide)]

theorem unitStatusReadCommand_of_unit (hunit : (s.tag t).unit = 0) (i : Fin 239) :
    unitStatusReadCommand t [byteOf (i.val + 1)] s =
      answered t .accepted (unitReport (byteOf (i.val + 1)) s.ust.units[i.val]) s := by
  have hfield : byteAt [byteOf (i.val + 1)] 0 = byteOf (i.val + 1) := rfl
  rw [unitStatusReadCommand, hfield, isUnit_byteOf, record_byteOf]
  exact reply_eq_answered hunit _ _

/-- Any other parameter list has another length, or names no unit (R100). -/
theorem unitStatusReadCommand_of_no_unit (hunit : (s.tag t).unit = 0)
    (hparams : ∀ i : Fin 239, params ≠ [byteOf (i.val + 1)]) :
    unitStatusReadCommand t params s = answered t .badParameter [] s := by
  have hrefused : (params.length != 1 || !isUnit (byteAt params 0)) = true := by
    match params with
    | [] => rfl
    | [u] =>
      have hno : isUnit u = false := isUnit_eq_false fun i hu => hparams i (by rw [hu])
      simpa [byteAt] using hno
    | _ :: _ :: _ => simp
  rw [unitStatusReadCommand, if_pos hrefused, reply_eq_answered hunit]

end UnitStatusRead

end Sys2Proof.Machine

namespace Sys2Proof
open Sys2Proof.Machine

/-- Settles O6, by the two kinds of parameter lists: the code of one unit, and any other. -/
theorem unitStatusReadAnswers : Obligations.UnitStatusReadAnswers := by
  intro s t params hready
  have ⟨_, _, _, hunit, _⟩ := hready
  rw [exec_unitStatusRead hready]
  refine ⟨fun i hparams => ?_, fun hparams => ?_⟩
  · rw [hparams, unitStatusReadCommand_of_unit hunit, unitReport_eq]
    rfl
  · rw [unitStatusReadCommand_of_no_unit hunit hparams]

end Sys2Proof
end

section
/-!
CHANGES-READ (O17): the units that leave the head of the Change List, and their change flags (R99).
-/

namespace Sys2Proof.Machine

/-- The clearing of one unit's change flag (R99); a byte that is no unit clears none. -/
theorem units_clearChanged (t : UnitStatusTable) (u : Byte) (i : Fin 239) :
    (t.clearChanged u).units[i.val] =
      if byteOf (i.val + 1) = u then { t.units[i.val] with changed := false } else t.units[i.val] := by
  cases hu : isUnit u with
  | false =>
    have hne : byteOf (i.val + 1) ≠ u := fun he => by simp [← he, isUnit_byteOf] at hu
    have hindex : unitIndex u = none := by simpa [unitIndex, isUnit] using hu
    rw [if_neg hne, UnitStatusTable.clearChanged, UnitStatusTable.setRecord, hindex]
  | true =>
    obtain ⟨j, rfl⟩ := exists_eq_byteOf hu
    rw [UnitStatusTable.clearChanged, setRecord_byteOf, record_byteOf]
    by_cases hij : i = j
    · subst hij
      simp
    · have hne : byteOf (i.val + 1) ≠ byteOf (j.val + 1) := fun he => hij (byteOf_unit_injective he)
      rw [if_neg hne]
      exact Vector.getElem_set_ne j.isLt i.isLt fun he => hij (Fin.ext he.symm)

/-- The clearing of the change flags of a list of units (R99). -/
theorem units_foldl_clearChanged (l : List Byte) (t : UnitStatusTable) (i : Fin 239) :
    (l.foldl UnitStatusTable.clearChanged t).units[i.val] =
      if byteOf (i.val + 1) ∈ l then { t.units[i.val] with changed := false } else t.units[i.val] := by
  induction l generalizing t with
  | nil => simp
  | cons u l ih =>
    rw [List.foldl_cons, ih, units_clearChanged]
    by_cases hu : byteOf (i.val + 1) = u <;> by_cases hl : byteOf (i.val + 1) ∈ l <;> simp [hu, hl]

/-- The units of the table after a CHANGES-READ (R99). -/
theorem units_takeChanges (t : UnitStatusTable) (i : Fin 239) :
    t.takeChanges.units[i.val] =
      if byteOf (i.val + 1) ∈ t.changes.take 16 then { t.units[i.val] with changed := false } else t.units[i.val] :=
  units_foldl_clearChanged ..

/-- The Change List and the overflow flag after a CHANGES-READ (R99). -/
theorem takeChanges_eq (t : UnitStatusTable) :
    t.takeChanges =
      { units := t.takeChanges.units
        changes := t.changes.drop 16
        overflow := if t.changes.drop 16 = [] then false else t.overflow } := by
  have hoverflow : (t.overflow && !(t.changes.drop 16).isEmpty) =
      if t.changes.drop 16 = [] then false else t.overflow := by
    cases t.changes.drop 16 <;> simp
  rw [← hoverflow]
  rfl

theorem exec_changesRead {s : State} {t : Tag} {params : List Byte} (h : Ready s t 7 params) :
    exec .changesRead s = .next (withoutParameters changesReadCommand t params s) := by
  have ⟨hpowered, _⟩ := h
  rw [exec, execChangesRead, event_of_powered hpowered, whenCommand_of_ready h (by decide)]

theorem changesReadCommand_eq {s : State} {t : Tag} (hunit : (s.tag t).unit = 0) :
    changesReadCommand t s =
      answered t .accepted
        ([if s.ust.overflow = true then 1 else 0, byteOf (s.ust.changes.take 16).length,
          byteOf (s.ust.changes.drop 16).length] ++ s.ust.changes.take 16)
        { s with ust := s.ust.takeChanges } :=
  reply_eq_answered (s := { s with ust := s.ust.takeChanges }) hunit _ _

end Sys2Proof.Machine

namespace Sys2Proof
open Sys2Proof.Machine

/-- Settles O17: the units of the table left by the CHANGES-READ are the witness. -/
theorem changesReadTakes : Obligations.ChangesReadTakes := by
  intro s t params hready
  have ⟨_, _, _, hunit, _⟩ := hready
  rw [exec_changesRead hready]
  split
  case isTrue hempty =>
    refine ⟨s.ust.takeChanges.units, units_takeChanges s.ust, ?_⟩
    rw [← takeChanges_eq, ← changesReadCommand_eq hunit, hempty]
    rfl
  case isFalse hparams =>
    rw [withoutParameters, if_neg (by simpa using hparams), reply_eq_answered hunit]

end Sys2Proof
end

section
/-!
The agreement of the Change List and the change flags under the three ways in which the Unit Status Table changes: an update, a CHANGES-READ and a reset (R94, R99, R104).
-/

namespace Sys2Proof.Machine

/-- A property of the Unit Status Table that every reset, every CHANGES-READ and every update of a unit keep (R94, R99, R104). -/
structure TableInvariant (P : UnitStatusTable → Prop) : Prop where
  reset : P UnitStatusTable.reset
  takeChanges : ∀ t, P t → P t.takeChanges
  update : ∀ t u o status watch, isUnit u = true → P t → P (t.update u o status watch)

/-- Only the list and the flags count: a table with the same list and the same flags agrees as well. -/
theorem changeListAgrees_congr {t t' : UnitStatusTable} (hlist : t'.changes = t.changes)
    (hflags : ∀ i : Fin 239, t'.units[i.val].changed = t.units[i.val].changed) (h : ChangeListAgrees t) :
    ChangeListAgrees t' := by
  obtain ⟨hnodup, hunits, hiff⟩ := h
  exact ⟨hlist ▸ hnodup, hlist ▸ hunits, fun i => by rw [hflags, hlist]; exact hiff i⟩

theorem changed_updated (r : UnitRecord) (o : OutcomeCode) (status : Option Byte) :
    (r.updated o status).changed = r.changed := rfl

/-- The flags of the table with one record written. -/
theorem changed_set (units : Vector UnitRecord 239) (i j : Fin 239) (r : UnitRecord) :
    ((units.set i.val r)[j.val]).changed = if i = j then r.changed else (units[j.val]).changed := by
  rw [Vector.getElem_set]
  by_cases hij : i = j
  · rw [if_pos hij, if_pos (congrArg Fin.val hij)]
  · rw [if_neg hij, if_neg fun he => hij (Fin.ext he)]

/-- A record written with its flag as it stood keeps every flag. -/
theorem changed_set_of_eq {units : Vector UnitRecord 239} {i : Fin 239} {r : UnitRecord}
    (hr : r.changed = (units[i.val]).changed) (j : Fin 239) :
    ((units.set i.val r)[j.val]).changed = (units[j.val]).changed := by
  rw [changed_set]
  split
  case isTrue hij => rw [hr, hij]
  case isFalse => rfl

/-- A unit whose flag is clear joins the tail of the list, its flag set (R98). -/
theorem changeListAgrees_append {t : UnitStatusTable} (h : ChangeListAgrees t) {i : Fin 239} {r : UnitRecord}
    (hclear : t.units[i.val].changed = false) (hset : r.changed = true) :
    ChangeListAgrees { t with units := t.units.set i.val r, changes := t.changes ++ [byteOf (i.val + 1)] } := by
  obtain ⟨hnodup, hunits, hiff⟩ := h
  have hnew : byteOf (i.val + 1) ∉ t.changes := fun hmem => by simp [(hiff i).2 hmem] at hclear
  refine ⟨List.nodup_append_comm.1 (List.nodup_cons.2 ⟨hnew, hnodup⟩), fun u hu => ?_, fun j => ?_⟩
  · obtain hu | rfl : u ∈ t.changes ∨ u = byteOf (i.val + 1) := by simpa using hu
    · exact hunits u hu
    · exact isUnit_byteOf i
  · rw [changed_set, List.mem_append, List.mem_singleton]
    by_cases hij : i = j
    · subst hij
      simp [hset]
    · have hne : byteOf (j.val + 1) ≠ byteOf (i.val + 1) := fun he => hij (byteOf_unit_injective he).symm
      simp [hij, hne, hiff j]

/-- An update keeps the agreement: the flag is set exactly when the unit joins the list (R94 to R98). -/
theorem changeListAgrees_update {t : UnitStatusTable} (h : ChangeListAgrees t) {u : Byte} (hu : isUnit u = true)
    (o : OutcomeCode) (status : Option Byte) (watch : Bool) : ChangeListAgrees (t.update u o status watch) := by
  obtain ⟨i, rfl⟩ := exists_eq_byteOf hu
  by_cases hchange : isChange watch t.units[i.val].status status = true ∧ t.units[i.val].changed = false
  · rw [update_changed t rfl o status watch hchange]
    split
    · exact changeListAgrees_append h hchange.2 rfl
    · exact changeListAgrees_congr (t := t) rfl (changed_set_of_eq (changed_updated ..)) h
  · rw [update_unchanged t rfl o status watch hchange]
    exact changeListAgrees_congr (t := t) rfl (changed_set_of_eq (changed_updated ..)) h

/-- A CHANGES-READ keeps the agreement: the units that leave the list are those whose flags are cleared (R99). -/
theorem changeListAgrees_takeChanges {t : UnitStatusTable} (h : ChangeListAgrees t) :
    ChangeListAgrees t.takeChanges := by
  obtain ⟨hnodup, hunits, hiff⟩ := h
  have hsplit : t.changes.take 16 ++ t.changes.drop 16 = t.changes := List.take_append_drop ..
  have hapart : ∀ u ∈ t.changes.take 16, u ∉ t.changes.drop 16 := by
    rw [← hsplit] at hnodup
    exact List.disjoint_of_nodup_append hnodup
  rw [takeChanges_eq]
  refine ⟨hnodup.sublist (List.drop_sublist ..), fun u hu => hunits u (List.mem_of_mem_drop hu), fun i => ?_⟩
  dsimp only
  rw [units_takeChanges]
  split
  case isTrue htaken => simpa using hapart _ htaken
  case isFalse hleft =>
    have hmem : byteOf (i.val + 1) ∈ t.changes ↔
        byteOf (i.val + 1) ∈ t.changes.take 16 ∨ byteOf (i.val + 1) ∈ t.changes.drop 16 := by
      rw [← List.mem_append, hsplit]
    exact (hiff i).trans (hmem.trans (or_iff_right hleft))

/-- The agreement is an invariant of the table. -/
theorem tableInvariant_changeListAgrees : TableInvariant ChangeListAgrees where
  reset := changeListAgrees_reset
  takeChanges _ := changeListAgrees_takeChanges
  update _ _ o status watch hu h := changeListAgrees_update h hu o status watch

end Sys2Proof.Machine
end

section
/-!
Transactions end, and the Unit Status Table changes by their updates only (R94): the ends that the Dispatcher, the policy check, the Route Cache and the ports bring about keep every invariant of the table. A hypothesis written `by exact h` speaks of an earlier state whose table is the same by definition; the goal names that state.
-/

namespace Sys2Proof.Machine

namespace TableInvariant

variable {P : UnitStatusTable → Prop} {s : State}

/-- A fold whose every step keeps a property of the table. -/
theorem after_foldl {α : Type} {f : State → α → State} (h : P s.ust) (hf : ∀ s x, P s.ust → P (f s x).ust)
    (l : List α) : P (l.foldl f s).ust :=
  foldl_invariant f (fun s => P s.ust) hf l s h

/-! ## The end of a transaction (R20) -/

variable (hP : TableInvariant P) (h : P s.ust)
include hP h

theorem after_endTransaction (t : Tag) (o : OutcomeCode) (status : Option Byte) (watch : Bool) (payload : List Byte) :
    P (endTransaction t o status watch payload s).ust := by
  cases hupdates : updatesStatus (s.tag t) o with
  | false =>
    rw [endTransaction_of_no_update status watch payload hupdates]
    exact h
  | true =>
    rw [endTransaction_of_update status watch payload hupdates]
    have hunit : isUnit (s.tag t).unit = true := by
      simp only [updatesStatus, Bool.and_eq_true] at hupdates
      exact hupdates.1.1
    exact hP.update _ _ _ _ _ hunit h

theorem after_endPlain (t : Tag) (o : OutcomeCode) : P (endPlain t o s).ust := hP.after_endTransaction h ..

theorem after_reply (t : Tag) (result : ResultCode) (data : List Byte) : P (reply t result data s).ust :=
  hP.after_endTransaction h t .done none false (result.code :: data)

/-! ## The policy check (R11 to R16) -/

theorem after_refuse (t : Tag) (o : OutcomeCode) : P (refuse t o s).ust := hP.after_endPlain h ..

theorem after_refuseIllegal (t : Tag) (channel : Nat) : P (refuseIllegal t channel s).ust := hP.after_refuse h ..

theorem after_answerLocally (t : Tag) (route : Route) : P (answerLocally t route s).ust :=
  hP.after_endTransaction h t _ none false (localAnswerOf (s.tag t).op (s.tag t).length route).2

theorem after_portChecks (t : Tag) (i : SlotNo) (b : Branch) : P (portChecks t i b s).ust := by
  unfold portChecks
  split
  · exact hP.after_endPlain h ..
  · split
    · exact hP.after_endPlain h ..
    · simpa using h

theorem after_actionChecks (t : Tag) (i : SlotNo) (route : Route) : P (actionChecks t i route s).ust := by
  unfold actionChecks
  dsimp only
  split
  · exact hP.after_refuseIllegal h ..
  · split
    · exact hP.after_refuseIllegal h ..
    · exact hP.after_refuse h ..
    · exact hP.after_answerLocally h ..
    · exact hP.after_portChecks h ..

theorem after_judgeUnitRequest (t : Tag) (i : SlotNo) (route : Route) : P (judgeUnitRequest t i route s).ust := by
  unfold judgeUnitRequest
  dsimp only
  split
  · exact hP.after_refuse (by exact h) ..
  · exact hP.after_answerLocally (by exact h) ..
  · exact hP.after_actionChecks (by exact h) ..

theorem after_unitPolicyCheck (t : Tag) (i : SlotNo) (route : Route) : P (unitPolicyCheck t i route s).ust := by
  unfold unitPolicyCheck
  split
  · simpa using h
  · exact hP.after_judgeUnitRequest h ..

theorem after_decideBroadcast (t : Tag) : P (decideBroadcast t s).ust := by
  unfold decideBroadcast
  dsimp only
  split
  · exact h
  · split
    · split
      · exact hP.after_endTransaction h ..
      · exact hP.after_endPlain h ..
    · exact hP.after_endPlain h ..

theorem after_endMember (t : Tag) (b : Branch) (succeeded : Bool) : P (endMember t b succeeded s).ust :=
  hP.after_decideBroadcast (by simpa using h) ..

theorem after_fanOut (t : Tag) : P (fanOut t s).ust :=
  hP.after_decideBroadcast (after_foldl (by exact h) (fun s b hs => by simpa using hs) _) ..

theorem after_judgeBroadcast (t : Tag) : P (judgeBroadcast t s).ust := by
  unfold judgeBroadcast
  dsimp only
  split
  · exact hP.after_refuseIllegal h ..
  · exact hP.after_refuse h ..
  · exact hP.after_endPlain h ..
  · exact hP.after_fanOut h ..

theorem after_broadcastPolicyCheck (t : Tag) : P (broadcastPolicyCheck t s).ust := by
  unfold broadcastPolicyCheck
  split
  · simpa using h
  · exact hP.after_judgeBroadcast h ..

/-! ## Lookups and dispatches (R4 to R10, R29 to R32) -/

theorem after_lookup (t : Tag) : P (lookup t s).ust := by
  unfold lookup
  dsimp only
  split
  · simpa using h
  · split
    · exact hP.after_unitPolicyCheck (by simpa using h) ..
    · simpa using h
    · exact h

theorem after_managementRequest (r : RequestFrame) : P (managementRequest r s).ust := by
  unfold managementRequest
  split
  · exact hP.after_endPlain h ..
  · split
    · exact hP.after_endPlain h ..
    · exact h

theorem after_classify (r : RequestFrame) : P (classify r s).ust := by
  unfold classify
  split
  · exact hP.after_managementRequest h ..
  · split
    · exact hP.after_broadcastPolicyCheck h ..
    · split
      · exact hP.after_endTransaction h ..
      · exact hP.after_lookup h ..

theorem after_dispatchFrame (r : RequestFrame) : P (dispatchFrame r s).ust := by
  unfold dispatchFrame
  split
  · exact h
  · have hfilled : P (fillRecord r s).ust := by simpa using h
    split
    · exact hP.after_endPlain hfilled ..
    · exact hP.after_classify hfilled ..

/-! ## Fills and releases (R35 to R39, R61) -/

theorem after_endWaiters (o : OutcomeCode) (waiters : List Tag) : P (endWaiters o waiters s).ust :=
  after_foldl h (fun _ _ hs => hP.after_endPlain hs ..) _

theorem after_fillPresent (i : SlotNo) (unit : Byte) (route : Route) (waiters : List Tag) :
    P (fillPresent i unit route waiters s).ust :=
  after_foldl (by simpa using h) (fun _ _ hs => hP.after_unitPolicyCheck hs ..) _

theorem after_fillWithout (k : FaultKind) (i : SlotNo) (unit : Byte) (waiters : List Tag) :
    P (fillWithout k i unit waiters s).ust :=
  hP.after_endWaiters (by simpa using h) ..

theorem after_fillResult (i : SlotNo) (bytes : List Byte) : P (fillResult i bytes s).ust := by
  unfold fillResult
  split
  · simpa using h
  · split
    · exact hP.after_fillPresent h ..
    · exact hP.after_fillWithout h ..
    · exact hP.after_fillWithout h ..
  · exact h

theorem after_fillRefused (i : SlotNo) : P (fillRefused i s).ust := by
  unfold fillRefused
  split
  case h_1 waiters _ =>
    have hended : P (endWaiters .storeBusy waiters (s.setSlot i .empty)).ust := hP.after_endWaiters (by exact h) ..
    dsimp only
    split
    · simpa using hended
    · exact hended
  case h_2 => exact h

theorem after_release (t : Tag) : P (release s t).ust := by
  unfold release
  split
  · exact hP.after_broadcastPolicyCheck h ..
  · exact hP.after_lookup (by exact h) ..

theorem after_chunkArrived (k : Fin 32) (bad : Nat) (bytes : List Byte) : P (chunkArrived k bad bytes s).ust := by
  unfold chunkArrived
  dsimp only
  split
  · exact after_foldl (by exact h) (fun _ _ hs => hP.after_release hs ..) _
  · exact h

/-! ## Ends at a branch port (R17, R70, R77) -/

theorem after_endUnit (t : Tag) (cause : EndCause) (status : Option Byte) : P (endUnit t cause status s).ust :=
  hP.after_endTransaction (by simpa using h) ..

theorem after_dropQueue (b : Branch) : P (dropQueue b s).ust := by
  refine after_foldl (by exact h) (fun s e hs => ?_) _
  unfold dropEntry
  split
  · exact hP.after_endUnit hs ..
  · exact hP.after_endMember hs ..

theorem after_endExchange (b : Branch) (x : Exchange) (cause : EndCause) (succeeded : Bool) (status : Option Byte) :
    P (endExchange b x cause succeeded status s).ust := by
  change P (reportEnd b x cause succeeded status s).ust
  unfold reportEnd
  split
  · exact hP.after_endUnit h ..
  · exact hP.after_endMember h ..
  · simpa using h

theorem after_failAttempt (b : Branch) (x : Exchange) (cause : EndCause) : P (failAttempt b x cause s).ust := by
  unfold failAttempt
  split
  · exact hP.after_endExchange h ..
  · split
    · exact hP.after_endExchange h ..
    · split
      · exact hP.after_endExchange h ..
      · exact h

theorem after_shutDown (b : Branch) (detail : Byte) : P (shutDown b detail s).ust := by
  unfold shutDown
  dsimp only
  refine hP.after_dropQueue ?_ b
  split
  · exact hP.after_endExchange (by exact h) ..
  · exact h

/-! ## Events of a port (R79 to R87) -/

theorem after_goodEcho (b : Branch) (x : Exchange) : P (goodEcho b x s).ust := by
  unfold goodEcho
  dsimp only
  split
  · exact hP.after_endExchange (by exact h) ..
  · exact h

theorem after_faultyEcho (b : Branch) (x : Exchange) : P (faultyEcho b x s).ust := by
  unfold faultyEcho
  dsimp only
  split
  · exact hP.after_shutDown (by exact h) ..
  · exact hP.after_failAttempt (by exact h) ..

theorem after_hearReply (b : Branch) (x : Exchange) (heard : Heard) : P (hearReply b x heard s).ust := by
  unfold hearReply
  split
  · exact hP.after_endExchange (by exact h) ..
  · exact h
  · exact hP.after_failAttempt (by exact h) ..

theorem after_responseExpired (b : Branch) (x : Exchange) : P (responseExpired b x s).ust :=
  hP.after_failAttempt (by exact h) ..

end TableInvariant

end Sys2Proof.Machine
end

section
/-!
Every step keeps every invariant of the Unit Status Table, and with it the agreement of the Change List and the change flags (O55).
-/

namespace Sys2Proof.Machine

namespace TableInvariant

variable {P : UnitStatusTable → Prop} {s s' : State}

/-! ## Events and commands -/

/-- An event, with power and without. -/
theorem after_event {body : State} (h : P s.ust) (hbody : P body.ust) (hs' : event s body = .next s') : P s'.ust := by
  unfold event at hs'
  obtain rfl := Host.Outcome.next.inj hs'
  split
  · exact hbody
  · exact h

/-- An event that leaves the table as it was. -/
theorem after_event_of_eq {body : State} (h : P s.ust) (hbody : body.ust = s.ust) (hs' : event s body = .next s') :
    P s'.ust := after_event h (hbody ▸ h) hs'

theorem after_settle (h : P s.ust) : P (settle s).ust := by simpa using h

/-- A management command, executed from the head of the Management Queue or not. -/
theorem after_command {code : Nat → Bool} {body : Tag → List Byte → State → State} (h : P s.ust)
    (hs' : event s (whenCommand code body s) = .next s') (hbody : ∀ t params, P (body t params s).ust) : P s'.ust := by
  refine after_event h ?_ hs'
  unfold whenCommand
  split
  · split
    · exact hbody ..
    · exact h
  · exact h

section
variable (hP : TableInvariant P) (h : P s.ust)
include hP h

/-- A management command that takes no parameters. -/
theorem after_plainCommand {code : Nat → Bool} {body : Tag → State → State}
    (hs' : event s (whenCommand code (withoutParameters body) s) = .next s') (hbody : ∀ t, P (body t s).ust) :
    P s'.ust :=
  after_command h hs' fun t params => by
    unfold withoutParameters
    split
    · exact hbody t
    · exact hP.after_reply h ..

/-! ## The commands that answer at once -/

theorem after_setConfigCommand (t : Tag) (params : List Byte) : P (setConfigCommand t params s).ust := by
  unfold setConfigCommand
  split <;> exact hP.after_reply (by exact h) ..

theorem after_setEventMaskCommand (t : Tag) (params : List Byte) : P (setEventMaskCommand t params s).ust := by
  unfold setEventMaskCommand
  split <;> exact hP.after_reply (by exact h) ..

theorem after_faultClearCommand (t : Tag) (params : List Byte) : P (faultClearCommand t params s).ust := by
  unfold faultClearCommand
  split <;> exact hP.after_reply (by exact h) ..

/-- CHANGES-READ takes units from the list before it answers (R99). -/
theorem after_changesReadCommand (t : Tag) : P (changesReadCommand t s).ust :=
  hP.after_reply (s := { s with ust := s.ust.takeChanges }) (hP.takeChanges _ h) ..

theorem after_unitStatusReadCommand (t : Tag) (params : List Byte) : P (unitStatusReadCommand t params s).ust := by
  unfold unitStatusReadCommand
  dsimp only
  split <;> exact hP.after_reply h ..

theorem after_countersReadCommand (t : Tag) (params : List Byte) : P (countersReadCommand t params s).ust := by
  unfold countersReadCommand
  split <;> exact hP.after_reply h ..

theorem after_cacheReadCommand (t : Tag) (params : List Byte) : P (cacheReadCommand t params s).ust := by
  unfold cacheReadCommand
  split <;> exact hP.after_reply h ..

theorem after_queueInvalidationCommand (t : Tag) (params : List Byte) :
    P (queueInvalidationCommand t params s).ust := by
  unfold queueInvalidationCommand
  dsimp only
  split
  · exact hP.after_reply h ..
  · split <;> exact hP.after_reply (by exact h) ..

theorem after_iqRecoverCommand (t : Tag) : P (iqRecoverCommand t s).ust := by
  unfold iqRecoverCommand
  split <;> exact hP.after_reply (by exact h) ..

theorem after_writeEnableCommand (t : Tag) : P (writeEnableCommand t s).ust := by
  unfold writeEnableCommand
  split <;> exact hP.after_reply (by exact h) ..

theorem after_operationCommand (t : Tag) (o : StoreOp) (refuses : Bool) : P (operationCommand t o refuses s).ust := by
  unfold operationCommand
  split
  · exact after_settle (hP.after_reply (by simpa using h) ..)
  · exact hP.after_reply (by exact h) ..
  · exact hP.after_reply h ..

theorem after_programCommand (t : Tag) (params : List Byte) : P (programCommand t params s).ust := by
  unfold programCommand
  split
  · exact hP.after_reply h ..
  · exact hP.after_operationCommand h ..

theorem after_eraseCommand (t : Tag) (params : List Byte) : P (eraseCommand t params s).ust := by
  unfold eraseCommand
  split
  · exact hP.after_reply h ..
  · exact hP.after_operationCommand h ..

theorem after_resumeCommand (t : Tag) : P (resumeCommand t s).ust := by
  unfold resumeCommand
  split
  · exact after_settle (hP.after_reply (by simpa using h) ..)
  · exact hP.after_reply h ..

theorem after_protectCommand (t : Tag) (params : List Byte) : P (protectCommand t params s).ust := by
  unfold protectCommand
  split
  · exact hP.after_reply h ..
  · split
    · exact hP.after_reply h ..
    · split <;> exact hP.after_reply (by exact h) ..

theorem after_startActivation (t : Tag) : P (startActivation t s).ust := by
  unfold startActivation
  split
  · exact hP.after_reply h ..
  · exact after_settle (hP.after_reply (by exact h) ..)

/-- ACTIVATE-POLICY executed by the row of one mode (R64). -/
theorem after_activatePolicy {mode : ActivationMode} {body : Tag → State → State} (hbody : ∀ t, P (body t s).ust)
    (t : Tag) (params : List Byte) : P (activatePolicy mode body t params s).ust := by
  unfold activatePolicy
  split
  · split
    · exact hbody t
    · exact h
  · exact hP.after_reply h ..

/-! ## STORE-READ (R141), PORT-CONTROL (R68 to R70) and CANCEL (R18) -/

theorem after_storeReadCommand (t : Tag) (params : List Byte) : P (storeReadCommand t params s).ust := by
  unfold storeReadCommand
  dsimp only
  split
  · exact hP.after_reply h ..
  · split
    · exact hP.after_reply h ..
    · split
      · exact hP.after_reply h ..
      · exact after_settle (by exact h)

theorem after_finishStoreRead (bytes : List Byte) : P (finishStoreRead bytes s).ust := by
  unfold finishStoreRead
  split
  · exact hP.after_reply h ..
  · exact h
  · exact h

/-- PORT-CONTROL executed by the row of one action (R68). -/
theorem after_portControl {action : PortAction} {body : Tag → Branch → State → State}
    (hbody : ∀ t b, P (body t b s).ust) (t : Tag) (params : List Byte) : P (portControl action body t params s).ust := by
  unfold portControl
  split
  · split
    · exact hbody ..
    · exact h
  · exact hP.after_reply h ..

theorem after_enableCommand (t : Tag) (b : Branch) : P (enableCommand t b s).ust := by
  unfold enableCommand
  split <;> exact hP.after_reply (by exact h) ..

theorem after_disableCommand (t : Tag) (b : Branch) : P (disableCommand t b s).ust := by
  unfold disableCommand
  dsimp only
  split
  · exact hP.after_reply (hP.after_dropQueue (by exact h) b) ..
  · exact hP.after_reply (by exact h) ..

theorem after_cancelTransaction (t : Tag) : P (cancelTransaction t s).2.ust := by
  unfold cancelTransaction
  split
  · exact hP.after_endPlain (s := leaveWaiters t s) (by simpa using h) ..
  · exact hP.after_endPlain (s := leaveHeld t s) (by simpa using h) ..
  · exact hP.after_endPlain (s := dropReference t (leaveQueue t s)) (by simpa using h) ..
  · exact h
  · exact h

theorem after_cancelCommand (t : Tag) (params : List Byte) : P (cancelCommand t params s).ust := by
  unfold cancelCommand
  split
  · exact hP.after_reply h ..
  · exact hP.after_reply (hP.after_cancelTransaction h _) ..

/-! ## Power and transmission -/

theorem after_execPowerLoss (hs' : execPowerLoss s = .next s') : P s'.ust := by
  unfold execPowerLoss at hs'
  obtain rfl := Host.Outcome.next.inj hs'
  split
  · exact hP.reset
  · exact h

theorem after_execTransmissionEnd (hs' : execTransmissionEnd s = .next s') : P s'.ust := by
  refine after_event h ?_ hs'
  split
  · split
    · exact after_settle hP.reset
    · exact h
  · exact h

/-! ## The Dispatcher, the Route Cache and the loader -/

theorem after_execDispatch (hs' : execDispatch s = .next s') : P s'.ust := by
  refine after_event h ?_ hs'
  split
  · exact after_settle (hP.after_dispatchFrame (by exact h) _)
  · exact h

theorem after_execFillCompletion (hs' : execFillCompletion s = .next s') : P s'.ust := by
  refine after_event h ?_ hs'
  split
  · exact after_settle (hP.after_fillResult (by exact h) ..)
  · exact after_settle h
  · exact h

theorem after_execFillRefusal {i : SlotNo} (hs' : execFillRefusal i s = .next s') : P s'.ust := by
  refine after_event h ?_ hs'
  split
  · exact after_settle (hP.after_fillRefused (by exact h) i)
  · exact h

theorem after_execChunkCompletion (hs' : execChunkCompletion s = .next s') : P s'.ust := by
  refine after_event h ?_ hs'
  split
  · exact after_settle (hP.after_chunkArrived (by exact h) ..)
  · exact after_settle h
  · exact h

theorem after_execStoreReadCompletion (hs' : execStoreReadCompletion s = .next s') : P s'.ust := by
  refine after_event h ?_ hs'
  split
  · exact after_settle (hP.after_finishStoreRead (by exact h) _)
  · exact after_settle h
  · exact h

/-! ## The branch ports -/

theorem after_execBranchTransmissionEnd {b : Branch} {heard : List Byte}
    (hs' : execBranchTransmissionEnd b heard s = .next s') : P s'.ust := by
  refine after_event h ?_ hs'
  split
  · split
    · exact hP.after_goodEcho h ..
    · exact hP.after_faultyEcho h ..
  · exact h

theorem after_execTransmitWatchdogExpiry {b : Branch} (hs' : execTransmitWatchdogExpiry b s = .next s') :
    P s'.ust := by
  refine after_event h ?_ hs'
  split
  · exact hP.after_shutDown h ..
  · exact h

theorem after_execResponseTimerExpiry {b : Branch} (hs' : execResponseTimerExpiry b s = .next s') : P s'.ust := by
  refine after_event h ?_ hs'
  split
  · exact hP.after_responseExpired h ..
  · exact h

theorem after_execBranchFrameHeard {b : Branch} {bytes : List Byte}
    (hs' : execBranchFrameHeard b bytes s = .next s') : P s'.ust := by
  refine after_event h ?_ hs'
  split
  · exact hP.after_hearReply h ..
  · exact h
  · exact h

end

/-! ## Operations that leave the table as it was -/

theorem ust_loaderArrived (k : Fin 33) (record : Option LoadedRecord) (bad : Nat) (bytes : List Byte) (s : State) :
    (loaderArrived k record bad bytes s).ust = s.ust := by
  have happly : ∀ (total : Nat) (u : State), (applyLoad record total u).ust = u.ust := fun total u => by
    cases record <;> rfl
  unfold loaderArrived
  split
  · rfl
  · dsimp only
    split
    · rw [happly, writeChunk]
    · rfl

theorem ust_processHead (d : Descriptor) (s : State) : (processHead d s).ust = s.ust := by
  unfold processHead
  split
  · rfl
  · split
    · unfold performFence
      split <;> simp
    · simp [completeDescriptor]

/-- A detected break leaves the table as it was (R104). -/
theorem ust_detectBreak (s : State) : (detectBreak s).ust = s.ust := by
  unfold detectBreak
  split
  · simp [breakEffects, freeTags]
  · rfl

theorem ust_tick (s : State) : (tick s).ust = s.ust := by
  unfold tick
  split <;> rfl

/-! ## Every command, and every step -/

/-- Every command of the opcode table keeps an invariant of the table. -/
theorem after_exec (hP : TableInvariant P) (h : P s.ust) {c : Instr} (hs' : exec c s = .next s') : P s'.ust := by
  cases c with
  | powerOn =>
    obtain rfl := Host.Outcome.next.inj hs'
    split <;> exact hP.reset
  | powerLoss => exact hP.after_execPowerLoss h hs'
  | lineEntersBreak received => exact after_event_of_eq h (by split <;> rfl) hs'
  | lineReturnsToIdle => exact after_event_of_eq h (by simp [ust_detectBreak]) hs'
  | trunkBreak => exact after_event_of_eq h (ust_detectBreak s) hs'
  | frameCompletion frame => exact after_event_of_eq h (by split <;> simp) hs'
  | dispatch => exact hP.after_execDispatch h hs'
  | fillCompletion => exact hP.after_execFillCompletion h hs'
  | fillRefusal slot => exact hP.after_execFillRefusal h hs'
  | takeHead branch => exact after_event_of_eq h (by split <;> simp) hs'
  | branchTransmissionEnd branch heard => exact hP.after_execBranchTransmissionEnd h hs'
  | transmitWatchdogExpiry branch => exact hP.after_execTransmitWatchdogExpiry h hs'
  | responseTimerExpiry branch => exact hP.after_execResponseTimerExpiry h hs'
  | branchFrameHeard branch bytes => exact hP.after_execBranchFrameHeard h hs'
  | startOfTransmission => exact after_event_of_eq h (by split <;> rfl) hs'
  | transmissionEnd => exact hP.after_execTransmissionEnd h hs'
  | operationCompletion => exact after_event_of_eq h (by split <;> simp) hs'
  | suspendEffective => exact after_event_of_eq h (by split <;> simp) hs'
  | holdoffExpiry => exact after_event_of_eq h (by split <;> simp) hs'
  | storeReadCompletion => exact hP.after_execStoreReadCompletion h hs'
  | chunkCompletion => exact hP.after_execChunkCompletion h hs'
  | loaderReadCompletion => exact after_event_of_eq h (by split <;> simp [ust_loaderArrived]) hs'
  | intervalTimerExpiry => exact after_event_of_eq h (by split <;> rfl) hs'
  | processingEvent => exact after_event_of_eq h (by split <;> simp [ust_processHead]) hs'
  | identify => exact hP.after_plainCommand h hs' fun t => hP.after_reply h ..
  | readConfig => exact hP.after_plainCommand h hs' fun t => hP.after_reply h ..
  | setConfig => exact after_command h hs' fun t params => hP.after_setConfigCommand h ..
  | events => exact hP.after_plainCommand h hs' fun t => hP.after_reply (s := clearLatches s) h ..
  | setEventMask => exact after_command h hs' fun t params => hP.after_setEventMaskCommand h ..
  | faultRead => exact hP.after_plainCommand h hs' fun t => hP.after_reply h ..
  | faultClear => exact after_command h hs' fun t params => hP.after_faultClearCommand h ..
  | changesRead => exact hP.after_plainCommand h hs' fun t => hP.after_changesReadCommand h t
  | unitStatusRead => exact after_command h hs' fun t params => hP.after_unitStatusReadCommand h ..
  | countersRead => exact after_command h hs' fun t params => hP.after_countersReadCommand h ..
  | snapshot => exact hP.after_plainCommand h hs' fun t => hP.after_reply (s := { s with pm := s.pm.snapshot }) h ..
  | portControlEnable =>
    exact after_command h hs' <| hP.after_portControl h fun t b => hP.after_enableCommand h t b
  | portControlDisable =>
    exact after_command h hs' <| hP.after_portControl h fun t b => hP.after_disableCommand h t b
  | portControlReport => exact after_command h hs' <| hP.after_portControl h fun t b => hP.after_reply h ..
  | cancel => exact after_command h hs' fun t params => hP.after_cancelCommand h ..
  | queueInvalidation => exact after_command h hs' fun t params => hP.after_queueInvalidationCommand h ..
  | iqStatus => exact hP.after_plainCommand h hs' fun t => hP.after_reply h ..
  | iqRecover => exact hP.after_plainCommand h hs' fun t => hP.after_iqRecoverCommand h t
  | storeWriteEnable => exact hP.after_plainCommand h hs' fun t => hP.after_writeEnableCommand h t
  | storeWriteDisable => exact hP.after_plainCommand h hs' fun t => hP.after_reply (s := setWel false s) h ..
  | storeProgram => exact after_command h hs' fun t params => hP.after_programCommand h ..
  | storeErase => exact after_command h hs' fun t params => hP.after_eraseCommand h ..
  | storeSuspend =>
    exact hP.after_plainCommand h hs' fun t =>
      hP.after_reply (s := { s with ts := { s.ts with phase := s.ts.judgeSuspend.2 } }) h ..
  | storeResume => exact hP.after_plainCommand h hs' fun t => hP.after_resumeCommand h t
  | storeRead => exact after_command h hs' fun t params => hP.after_storeReadCommand h ..
  | storeStatus => exact hP.after_plainCommand h hs' fun t => hP.after_reply h ..
  | storeProtect => exact after_command h hs' fun t params => hP.after_protectCommand h ..
  | activatePolicyStart =>
    exact after_command h hs' <| hP.after_activatePolicy h fun t => hP.after_startActivation h t
  | activatePolicyReport => exact after_command h hs' <| hP.after_activatePolicy h fun t => hP.after_reply h ..
  | cacheRead => exact after_command h hs' fun t params => hP.after_cacheReadCommand h ..
  | resetBridge =>
    exact hP.after_plainCommand h hs' fun t => hP.after_reply (s := { s with mu := { s.mu with halted := some t } }) h ..
  | unknownCommand => exact after_command h hs' fun t params => hP.after_reply h ..

/-- Every step keeps an invariant of the table. -/
theorem after_step (hP : TableInvariant P) (h : P s.ust) (hs' : step s = .next s') : P s'.ust := by
  unfold step at hs'
  split at hs'
  case h_1 =>
    obtain rfl := Host.Outcome.next.inj hs'
    rwa [ust_tick]
  case h_2 c rest _ => exact hP.after_exec (s := s.withPending rest) h hs'

end TableInvariant

end Sys2Proof.Machine

namespace Sys2Proof
open Sys2Proof.Machine

/-- Settles O55: the agreement is an invariant of the table, and every step keeps every such invariant. -/
theorem changeListIsKept : Obligations.ChangeListIsKept := by
  intro s s' hagrees hstep
  exact tableInvariant_changeListAgrees.after_step hagrees hstep

end Sys2Proof
end

section
/-!
The Invalidation Queue (R106, R107, R109): how descriptors are numbered, and that the engine stays sound when descriptors join its tail and when its head leaves.
-/

namespace Sys2Proof.Machine

/-! ## Sequences (R106) -/

theorem byteOf_add (m n : Nat) : byteOf (m + n) = byteOf m + byteOf n := BitVec.ofNat_add m n

theorem numberDescriptors_eq_mapIdx (ds : List Descriptor) (seq : Byte) :
    numberDescriptors seq ds = ds.mapIdx fun i d => { d with seq := seq + byteOf i } := by
  induction ds generalizing seq with
  | nil => rfl
  | cons d ds ih =>
    have hfirst : seq + byteOf 0 = seq := BitVec.add_zero seq
    have hnext : ∀ i, seq + 1 + byteOf i = seq + byteOf (i + 1) := fun i => by
      rw [byteOf_add, BitVec.add_assoc, BitVec.add_comm (byteOf i)]
      rfl
    rw [numberDescriptors, ih, List.mapIdx_cons, hfirst]
    simp only [hnext]

theorem length_numberDescriptors (seq : Byte) (ds : List Descriptor) : (numberDescriptors seq ds).length = ds.length := by
  rw [numberDescriptors_eq_mapIdx, List.length_mapIdx]

theorem numberDescriptors_append (seq : Byte) (ds es : List Descriptor) :
    numberDescriptors seq (ds ++ es) = numberDescriptors seq ds ++ numberDescriptors (seq + byteOf ds.length) es := by
  have hshift : ∀ i, seq + byteOf (i + ds.length) = seq + byteOf ds.length + byteOf i := fun i => by
    rw [Nat.add_comm, byteOf_add, BitVec.add_assoc]
  simp only [numberDescriptors_eq_mapIdx, List.mapIdx_append, hshift]

/-- Only the place of a descriptor counts, not the sequence that it carried. -/
theorem numberDescriptors_numberDescriptors (seq old : Byte) (ds : List Descriptor) :
    numberDescriptors seq (numberDescriptors old ds) = numberDescriptors seq ds := by
  simp only [numberDescriptors_eq_mapIdx, List.mapIdx_mapIdx, Function.comp_def]

/-- The descriptors of a command are given the sequences from the next one on, so the queue stays numbered (R106). -/
theorem numbered_append {next : Byte} {queue ds : List Descriptor}
    (h : numberDescriptors (next - byteOf queue.length) queue = queue) :
    numberDescriptors (next + byteOf ds.length - byteOf (queue ++ numberDescriptors next ds).length)
      (queue ++ numberDescriptors next ds) = queue ++ numberDescriptors next ds := by
  have hfirst : next + byteOf ds.length - byteOf (queue ++ numberDescriptors next ds).length =
      next - byteOf queue.length := by
    rw [List.length_append, length_numberDescriptors, byteOf_add]
    ring
  rw [hfirst, numberDescriptors_append, h, sub_add_cancel, numberDescriptors_numberDescriptors]

/-- The queue stays numbered when its head leaves (R106). -/
theorem numbered_tail {next : Byte} {queue : List Descriptor}
    (h : numberDescriptors (next - byteOf queue.length) queue = queue) :
    numberDescriptors (next - byteOf queue.tail.length) queue.tail = queue.tail := by
  cases queue with
  | nil => rfl
  | cons d rest =>
    have hsecond : next - byteOf (rest.length + 1) + 1 = next - byteOf rest.length := by
      rw [byteOf_add, show byteOf 1 = 1 from rfl]
      ring
    rw [List.length_cons, numberDescriptors, hsecond] at h
    exact (List.cons.inj h).2

/-! ## The engine (R108, R109, R112) -/

/-- The engine stays sound when its head leaves: completed, recovered or a FENCE (R115, R116, R119). -/
theorem engineSound_removeHead {q q' : InvalidationEngine} (h : EngineSound q) (hqueue : q'.queue = q.queue.tail)
    (hstate : q'.state = stateAfterHead q.queue.tail) (hnext : q'.nextSeq = q.nextSeq) : EngineSound q' := by
  refine ⟨?_, ?_⟩
  · rw [InvalidationEngine.headAgrees, hstate, hqueue]
    cases q.queue.tail <;> rfl
  · rw [hqueue, hnext]
    exact numbered_tail h.2

theorem stateAfterHead_ne_waitingFence (rest : List Descriptor) : stateAfterHead rest ≠ .waitingFence := by
  cases rest <;> simp [stateAfterHead]

/-- The head agrees with the state after an append, which only wakes an IDLE engine (R108). -/
theorem headAgrees_append {q : InvalidationEngine} (h : q.headAgrees = true) {ds : List Descriptor} (hds : ds ≠ []) :
    (q.append ds).headAgrees = true := by
  have hnumbered : numberDescriptors q.nextSeq ds ≠ [] := by
    rwa [← List.length_pos_iff, length_numberDescriptors, List.length_pos_iff]
  obtain ⟨d, rest, hnew⟩ := List.exists_cons_of_ne_nil hnumbered
  cases hstate : q.state with
  | idle =>
    have hqueue : q.queue = [] := by
      cases hq : q.queue with
      | nil => rfl
      | cons => simp [InvalidationEngine.headAgrees, hstate, hq] at h
    simp [InvalidationEngine.headAgrees, InvalidationEngine.append, hstate, hqueue, hnew]
  | running | waitingFence | error =>
    cases hq : q.queue with
    | nil => simp [InvalidationEngine.headAgrees, hstate, hq] at h
    | cons d queue =>
      have hsame : (q.append ds).headAgrees = q.headAgrees := by
        simp [InvalidationEngine.headAgrees, InvalidationEngine.append, hstate, hq]
      rwa [hsame]

theorem engineSound_append {q : InvalidationEngine} (h : EngineSound q) {ds : List Descriptor} (hds : ds ≠ []) :
    EngineSound (q.append ds) :=
  ⟨headAgrees_append h.1 hds, numbered_append h.2⟩

/-- Only an append wakes an engine: it waits for the cache afterwards exactly when it did before (R108). -/
theorem append_waitingFence_iff (q : InvalidationEngine) (ds : List Descriptor) :
    (q.append ds).state = .waitingFence ↔ q.state = .waitingFence := by
  simp only [InvalidationEngine.append]
  cases q.state <;> simp

/-- A waiting engine has its FENCE at the head (R109). -/
theorem queue_ne_nil_of_waitingFence {q : InvalidationEngine} (h : EngineSound q) (hstate : q.state = .waitingFence) :
    q.queue ≠ [] := fun hqueue => by
  simpa [InvalidationEngine.headAgrees, hstate, hqueue] using h.1

/-! ## The descriptors of a command (R108, R180) -/

/-- The parameters of a command, four bytes to a descriptor, are decoded in their order. -/
theorem decodeDescriptors_flatMap (ds : List (Byte × Byte × Byte × Byte)) :
    decodeDescriptors (ds.flatMap fun d => [d.1, d.2.1, d.2.2.1, d.2.2.2]) =
      ds.map fun d => { kind := d.1, first := d.2.1, count := d.2.2.1, notify := bitOf 0 d.2.2.2, seq := 0 } := by
  induction ds with
  | nil => rfl
  | cons d ds ih => rw [List.flatMap_cons, List.map_cons, ← ih]; rfl

/-- An accepted command has at least one descriptor. -/
theorem decodeDescriptors_ne_nil {params : List Byte} (h : 4 ≤ params.length) : decodeDescriptors params ≠ [] := by
  match params, h with
  | _ :: _ :: _ :: _ :: _, _ => simp [decodeDescriptors]

end Sys2Proof.Machine
end

section
/-!
The engine and the Route Cache (R44, R116, R117): an operation on the slots leaves a waiting FENCE waiting on an undrained cache, or reports to the engine what it has removed. A hypothesis written `by exact h` speaks of an earlier state whose engine and cache are the same by definition.
-/

namespace Sys2Proof.Machine

/-- The engine is sound, and a FENCE that waits finds the cache not drained (R106, R109, R117). -/
def EngineHeld (s : State) : Prop := EngineSound s.iqe ∧ FenceWaits s

variable {s s' : State}

theorem drained_eq_false_iff (c : RouteCache) : c.drained = false ↔ ∃ j : SlotNo, c.slots[j.val].undrained = true := by
  simp [RouteCache.drained]

/-- An engine that does not wait for the cache asks nothing of it. -/
theorem engineHeld_of_not_waiting (h : EngineSound s.iqe) (hstate : s.iqe.state ≠ .waitingFence) : EngineHeld s :=
  ⟨h, fun hwaits => absurd hwaits hstate⟩

/-- The engine is as it was, and what kept the cache from being drained still does. -/
theorem EngineHeld.of_undrained (h : EngineHeld s) (hiqe : s'.iqe = s.iqe)
    (hkeeps : ∀ j, (s.slot j).undrained = true → (s'.slot j).undrained = true) : EngineHeld s' := by
  obtain ⟨hsound, hwaits⟩ := h
  refine ⟨hiqe ▸ hsound, fun hstate => ?_⟩
  obtain ⟨j, hj⟩ := (drained_eq_false_iff _).1 (hwaits (hiqe ▸ hstate))
  exact (drained_eq_false_iff _).2 ⟨j, hkeeps j hj⟩

/-- The engine and the Route Cache are as they were. -/
theorem EngineHeld.of_eq (h : EngineHeld s) (hiqe : s'.iqe = s.iqe) (hrc : s'.rc = s.rc) : EngineHeld s' :=
  h.of_undrained hiqe fun j hj => by rwa [State.slot, hrc]

/-- A slot changes that did not keep the cache from being drained, or that still does. -/
theorem EngineHeld.setSlot (h : EngineHeld s) {i : SlotNo} {c : CacheSlot}
    (hc : (s.slot i).undrained = true → c.undrained = true) : EngineHeld (s.setSlot i c) :=
  h.of_undrained (setSlot_iqe ..) fun j hj => by
    rw [slot_setSlot]
    split
    case isTrue hji => exact hc (hji ▸ hj)
    case isFalse => exact hj

/-- A fold whose every step keeps it. -/
theorem EngineHeld.foldl {α : Type} {f : State → α → State} (h : EngineHeld s)
    (hf : ∀ s x, EngineHeld s → EngineHeld (f s x)) (l : List α) : EngineHeld (l.foldl f s) :=
  foldl_invariant f EngineHeld hf l s h

/-! ## Fences (R116, R117) -/

theorem completeFence_iqe {d : Descriptor} {rest : List Descriptor} (hqueue : s.iqe.queue = d :: rest) :
    (completeFence s).iqe =
      { s.iqe with
        queue := rest
        state := stateAfterHead rest
        lastCompletion := some { seq := d.seq, requested := kindFence, performed := kindFence } } := by
  rw [completeFence, hqueue]
  simp

/-- A completed FENCE leaves the head, and nothing waits (R116). -/
theorem engineHeld_completeFence (h : EngineSound s.iqe) (hqueue : s.iqe.queue ≠ []) : EngineHeld (completeFence s) := by
  obtain ⟨d, rest, hcons⟩ := List.exists_cons_of_ne_nil hqueue
  have hiqe := completeFence_iqe hcons
  refine engineHeld_of_not_waiting (engineSound_removeHead h ?_ ?_ ?_) ?_
  · rw [hiqe, hcons, List.tail_cons]
  · rw [hiqe, hcons, List.tail_cons]
  · rw [hiqe]
  · rw [hiqe]
    exact stateAfterHead_ne_waitingFence rest

/-- After the report a FENCE waits only on an undrained cache, whatever the event has removed (R117). -/
theorem engineHeld_drainReport (h : EngineSound s.iqe) : EngineHeld (drainReport s) := by
  unfold drainReport
  split
  case isTrue hcompletes => exact engineHeld_completeFence h (queue_ne_nil_of_waitingFence h hcompletes.1)
  case isFalse hwaits => exact ⟨h, fun hstate => Bool.eq_false_iff.2 fun hdrained => hwaits ⟨hstate, hdrained⟩⟩

/-! ## References and invalidations (R40 to R42) -/

theorem engineHeld_takeReference (h : EngineHeld s) (i : SlotNo) : EngineHeld (takeReference i s) := by
  unfold takeReference
  split
  case h_1 hslot => exact h.setSlot (by simp [hslot, CacheSlot.undrained])
  case h_2 => exact h

theorem engineHeld_releaseReference (h : EngineHeld s) (i : SlotNo) : EngineHeld (releaseReference i s) := by
  unfold releaseReference
  split
  case h_1 hslot => exact h.setSlot (by simp [hslot, CacheSlot.undrained])
  case h_2 hslot =>
    split
    · exact engineHeld_drainReport (s := s.setSlot i .empty) h.1
    · exact h.setSlot fun _ => rfl
  case h_3 => exact h

theorem engineHeld_releaseSlot (h : EngineHeld s) (o : Option SlotNo) : EngineHeld (releaseSlot o s) := by
  cases o with
  | none => exact h
  | some i => exact engineHeld_releaseReference h i

theorem engineHeld_unitPolicyCheck (h : EngineHeld s) (t : Tag) (i : SlotNo) (route : Route) :
    EngineHeld (unitPolicyCheck t i route s) := by
  rcases rc_unitPolicyCheck t i route s with hrc | hrc
  · exact h.of_eq (by simp) hrc
  · exact (engineHeld_takeReference h i).of_eq (by simp) hrc

/-! ## Lookups and dispatches (R4 to R10, R29 to R32) -/

/-- The victim of a miss keeps the cache from being drained by its refill mark only (R32). -/
theorem undrained_of_victim {i : SlotNo} (h : s.rc.victim = some i) : (s.slot i).undrained = (s.slot i).marked := by
  have hstale : (s.slot i).isStale = false := by
    rw [victim_eq, Option.or_eq_some_iff, Option.or_eq_some_iff] at h
    rcases h with hfound | ⟨-, hfound | ⟨-, hfound⟩⟩
    · have hempty := (isEmpty_iff (s.slot i)).1 (List.find?_some (p := fun j : SlotNo => (s.slot j).isEmpty) hfound)
      rw [hempty]; rfl
    · obtain ⟨_, _, hidle⟩ :=
        (isIdleValid_iff (s.slot i)).1 (List.find?_some (p := fun j : SlotNo => (s.slot j).isIdleValid) hfound)
      rw [hidle]; rfl
    · obtain ⟨_, _, hunawaited⟩ :=
        (isUnawaited_iff (s.slot i)).1 (List.find?_some (p := fun j : SlotNo => (s.slot j).isUnawaited) hfound)
      rw [hunawaited]; rfl
  rw [undrained_eq, hstale, Bool.false_or]

theorem engineHeld_lookupMiss (h : EngineHeld s) (t : Tag) (unit : Byte) : EngineHeld (lookupMiss t unit s) := by
  unfold lookupMiss
  split
  case h_1 => exact h.of_eq rfl rfl
  case h_2 i hvictim =>
    dsimp only
    split
    case isTrue => exact engineHeld_drainReport (by simpa using h.1)
    case isFalse hmark =>
      have hclaim : EngineHeld (claimSlot t i unit s) :=
        EngineHeld.setSlot (s := leaveRecency i (withdrawFill i s)) (by exact h) fun hundrained =>
          absurd ((undrained_of_victim hvictim).symm.trans hundrained) hmark
      exact hclaim.of_eq (by simp) (by simp)

theorem engineHeld_lookup (h : EngineHeld s) (t : Tag) : EngineHeld (lookup t s) := by
  unfold lookup
  dsimp only
  split
  case h_1 => exact engineHeld_lookupMiss h ..
  case h_2 i _ =>
    split
    case h_1 => exact engineHeld_unitPolicyCheck (by exact h) ..
    case h_2 hslot =>
      exact (h.setSlot (i := i) (by rw [hslot]; exact id)).of_eq rfl rfl
    case h_3 => exact h

theorem engineHeld_classify (h : EngineHeld s) (r : RequestFrame) : EngineHeld (classify r s) := by
  unfold classify
  split
  · unfold managementRequest
    split
    · exact h.of_eq (by simp) (by simp)
    · split
      · exact h.of_eq (by simp) (by simp)
      · exact h.of_eq rfl rfl
  · split
    · exact h.of_eq (by simp) (by simp)
    · split
      · exact h.of_eq (by simp [answerQuery]) (by simp [answerQuery])
      · exact engineHeld_lookup h _

theorem engineHeld_dispatchFrame (h : EngineHeld s) (r : RequestFrame) : EngineHeld (dispatchFrame r s) := by
  unfold dispatchFrame
  split
  · exact h.of_eq rfl rfl
  · have hfilled : EngineHeld (fillRecord r s) := h.of_eq (by simp) (by simp)
    split
    · exact hfilled.of_eq (by simp [answerBad]) (by simp [answerBad])
    · exact engineHeld_classify hfilled r

/-! ## Fills and releases (R35 to R39, R61) -/

theorem engineHeld_fillResult (h : EngineHeld s) (i : SlotNo) (bytes : List Byte) : EngineHeld (fillResult i bytes s) := by
  unfold fillResult
  split
  case h_1 unit waiters _ =>
    rw [fillMarked_eq]
    refine engineHeld_drainReport ?_
    split
    · exact h.1
    · simpa using h.1
  case h_2 unit waiters hslot =>
    have hset : ∀ c, EngineHeld (s.setSlot i c) := fun c => h.setSlot (by simp [hslot, CacheSlot.undrained])
    have hwithout : ∀ k, EngineHeld (fillWithout k i unit waiters s) := fun k =>
      (hset .empty).of_eq (by simp) (by simp [fillWithout])
    split
    case h_1 route _ =>
      exact EngineHeld.foldl (by exact hset (.valid unit route 0)) (fun _ _ hs => engineHeld_unitPolicyCheck hs ..) _
    case h_2 => exact hwithout _
    case h_3 => exact hwithout _
  case h_3 => exact h

theorem engineHeld_fillRefused (h : EngineHeld s) (i : SlotNo) : EngineHeld (fillRefused i s) := by
  unfold fillRefused
  split
  case h_1 mark waiters hslot =>
    dsimp only
    split
    case isTrue => exact engineHeld_drainReport (by simpa using h.1)
    case isFalse hmark =>
      have hempty : EngineHeld (s.setSlot i .empty) := h.setSlot (by simp [hslot, CacheSlot.undrained, hmark])
      exact hempty.of_eq (by simp) (by simp)
  case h_2 => exact h

theorem engineHeld_release (h : EngineHeld s) (t : Tag) : EngineHeld (release s t) := by
  unfold release
  split
  · exact h.of_eq (by simp) (by simp)
  · exact engineHeld_lookup (by exact h) t

theorem engineHeld_chunkArrived (h : EngineHeld s) (k : Fin 32) (bad : Nat) (bytes : List Byte) :
    EngineHeld (chunkArrived k bad bytes s) := by
  unfold chunkArrived
  dsimp only
  split
  · exact EngineHeld.foldl (by exact h) (fun _ _ hs => engineHeld_release hs _) _
  · exact h

/-! ## Ends at a branch port (R17, R70, R77) -/

theorem engineHeld_endUnit (h : EngineHeld s) (t : Tag) (c : EndCause) (status : Option Byte) :
    EngineHeld (endUnit t c status s) :=
  (engineHeld_releaseSlot (s := s.setTag t { s.tag t with slot := none }) h (s.tag t).slot).of_eq (by simp [endUnit])
    (by simp [endUnit])

theorem engineHeld_dropQueue (h : EngineHeld s) (b : Branch) : EngineHeld (dropQueue b s) := by
  refine EngineHeld.foldl (by exact h) (fun s e hs => ?_) _
  unfold dropEntry
  split
  · exact engineHeld_endUnit hs ..
  · exact hs.of_eq (by simp) (by simp)

theorem engineHeld_endExchange (h : EngineHeld s) (b : Branch) (x : Exchange) (c : EndCause) (ok : Bool)
    (status : Option Byte) : EngineHeld (endExchange b x c ok status s) := by
  change EngineHeld (reportEnd b x c ok status s)
  unfold reportEnd
  split
  · exact engineHeld_endUnit h ..
  · exact h.of_eq (by simp) (by simp)
  · exact engineHeld_releaseSlot h _

theorem engineHeld_failAttempt (h : EngineHeld s) (b : Branch) (x : Exchange) (c : EndCause) :
    EngineHeld (failAttempt b x c s) := by
  unfold failAttempt
  split
  · exact engineHeld_endExchange h ..
  · split
    · exact engineHeld_endExchange h ..
    · split
      · exact engineHeld_endExchange h ..
      · exact h.of_eq (by simp) (by simp)

theorem engineHeld_shutDown (h : EngineHeld s) (b : Branch) (detail : Byte) : EngineHeld (shutDown b detail s) := by
  unfold shutDown
  dsimp only
  refine engineHeld_dropQueue ?_ b
  split
  · exact engineHeld_endExchange (by exact h) ..
  · exact h

theorem engineHeld_goodEcho (h : EngineHeld s) (b : Branch) (x : Exchange) : EngineHeld (goodEcho b x s) := by
  unfold goodEcho
  dsimp only
  split
  · exact engineHeld_endExchange (by exact h) ..
  · exact h

theorem engineHeld_faultyEcho (h : EngineHeld s) (b : Branch) (x : Exchange) : EngineHeld (faultyEcho b x s) := by
  unfold faultyEcho
  dsimp only
  split
  · exact engineHeld_shutDown (by exact h) ..
  · exact engineHeld_failAttempt (by exact h) ..

theorem engineHeld_hearReply (h : EngineHeld s) (b : Branch) (x : Exchange) (heard : Heard) :
    EngineHeld (hearReply b x heard s) := by
  unfold hearReply
  split
  · exact engineHeld_endExchange (by exact h) ..
  · exact h
  · exact engineHeld_failAttempt (by exact h) ..

/-! ## CANCEL (R18) -/

theorem engineHeld_cancelTransaction (h : EngineHeld s) (t : Tag) : EngineHeld (cancelTransaction t s).2 := by
  unfold cancelTransaction
  split
  · have hleave : EngineHeld (leaveWaiters t s) := h.of_undrained (by simp) fun j hj => by
      rw [slot_leaveWaiters]
      cases hslot : s.slot j <;> rwa [hslot] at hj
    exact hleave.of_eq (by simp) (by simp)
  · exact h.of_eq (by simp) (by simp)
  · have hleave : EngineHeld (leaveQueue t s) := h.of_eq (by simp) (by simp)
    have hdrop : EngineHeld (dropReference t (leaveQueue t s)) := engineHeld_releaseSlot (by exact hleave) _
    exact hdrop.of_eq (by simp) (by simp)
  · exact h
  · exact h

/-! ## The trunk break (R45) -/

theorem engineHeld_releaseQueued (h : EngineHeld s) (t : Tag) : EngineHeld (releaseQueued s t) := by
  unfold releaseQueued
  split
  · exact engineHeld_releaseSlot h _
  · exact h

theorem engineHeld_dropFilling (h : EngineHeld s) (i : SlotNo) : EngineHeld (dropFilling s i) := by
  unfold dropFilling
  split
  case h_1 mark _ hslot =>
    dsimp only
    split
    case isTrue => exact engineHeld_drainReport (by exact h.1)
    case isFalse hmark =>
      have hempty : EngineHeld (s.setSlot i .empty) := h.setSlot (by simp [hslot, CacheSlot.undrained, hmark])
      exact hempty
  case h_2 => exact h

theorem engineHeld_breakEffects (h : EngineHeld s) : EngineHeld (breakEffects s) := by
  have hqueued := EngineHeld.foldl (s := count (.trunk .breaks) { s with tp := s.tp.broken }) (by exact h)
    (fun _ t hs => engineHeld_releaseQueued hs t) (List.finRange 16)
  have hcache : EngineHeld (breakCache (count (.trunk .breaks) { s with tp := s.tp.broken })) :=
    hqueued.foldl (fun _ i hs => engineHeld_dropFilling hs i) (List.finRange 32)
  exact hcache.of_eq (by simp only [breakEffects, freeTags]) (rc_breakEffects s)

end Sys2Proof.Machine
end

section
/-!
Every step keeps the Invalidation Queue Engine sound and a waiting FENCE on an undrained cache (O59): the events, then the commands of the opcode table.
-/

namespace Sys2Proof.Machine

variable {s s' : State}

/-! ## Events -/

/-- An event keeps what its body keeps, with power and without. -/
theorem engineHeld_event {body : State} (h : EngineHeld s) (hbody : EngineHeld body) (hs' : event s body = .next s') :
    EngineHeld s' := by
  unfold event at hs'
  obtain rfl := Host.Outcome.next.inj hs'
  split
  · exact hbody
  · exact h

/-- An event that leaves the engine and the Route Cache as they were. -/
theorem engineHeld_event_of_eq {body : State} (h : EngineHeld s) (hiqe : body.iqe = s.iqe) (hrc : body.rc = s.rc)
    (hs' : event s body = .next s') : EngineHeld s' := engineHeld_event h (h.of_eq hiqe hrc) hs'

theorem EngineHeld.settle (h : EngineHeld s) : EngineHeld (settle s) := h.of_eq (by simp) (by simp)

/-! ## The processing event (R111 to R116) -/

theorem engineHeld_enterError (h : EngineSound s.iqe) {d : Descriptor} {rest : List Descriptor}
    (hqueue : s.iqe.queue = d :: rest) (hmalformed : d.malformed = true) : EngineHeld (enterError d s) := by
  have hhead : (enterError d s).iqe.headAgrees = true := by
    simp [enterError, InvalidationEngine.headAgrees, hqueue, hmalformed]
  exact engineHeld_of_not_waiting ⟨hhead, h.2⟩ (by simp [enterError])

theorem engineHeld_performFence (h : EngineSound s.iqe) {d : Descriptor} {rest : List Descriptor}
    (hqueue : s.iqe.queue = d :: rest) (hfence : d.kind = kindFence) : EngineHeld (performFence s) := by
  unfold performFence
  split
  case isTrue => exact engineHeld_completeFence h (by simp [hqueue])
  case isFalse hdrained =>
    have hhead : InvalidationEngine.headAgrees { s.iqe with state := .waitingFence } = true := by
      simp [InvalidationEngine.headAgrees, hqueue, hfence]
    exact ⟨⟨hhead, h.2⟩, fun _ => Bool.eq_false_iff.2 hdrained⟩

/-- The invalidations of a descriptor touch the cache only; then its head leaves the queue (R113 to R115). -/
theorem engineHeld_completeDescriptor (h : EngineSound s.iqe) (d : Descriptor) :
    EngineHeld (completeDescriptor d (performInvalidation d s)) := by
  have hiqe : (performInvalidation d s).iqe = s.iqe := by simp
  refine engineHeld_of_not_waiting (engineSound_removeHead h ?_ ?_ ?_) (stateAfterHead_ne_waitingFence _)
  · rw [completeDescriptor, hiqe]
  · rw [completeDescriptor, hiqe]
  · rw [completeDescriptor, hiqe]

theorem engineHeld_execProcessingEvent (h : EngineHeld s) (hs' : execProcessingEvent s = .next s') : EngineHeld s' := by
  refine engineHeld_event h ?_ hs'
  split
  case h_1 d rest _ hqueue =>
    unfold processHead
    split
    case isTrue hmalformed => exact engineHeld_enterError h.1 hqueue hmalformed
    case isFalse =>
      split
      case isTrue hfence => exact engineHeld_performFence h.1 hqueue hfence
      case isFalse => exact engineHeld_completeDescriptor h.1 d
  case h_2 => exact h

/-! ## Power, reset and the trunk line (R122, R162) -/

/-- An engine at its power-on values has nothing to hold (R122). -/
theorem engineHeld_of_reset (hiqe : s.iqe = InvalidationEngine.reset) : EngineHeld s :=
  engineHeld_of_not_waiting (hiqe ▸ engineSound_reset) (by simp [hiqe, InvalidationEngine.reset])

theorem engineHeld_execPowerOn (hs' : execPowerOn s = .next s') : EngineHeld s' := by
  unfold execPowerOn at hs'
  obtain rfl := Host.Outcome.next.inj hs'
  split <;> exact engineHeld_of_reset rfl

theorem engineHeld_execPowerLoss (h : EngineHeld s) (hs' : execPowerLoss s = .next s') : EngineHeld s' := by
  unfold execPowerLoss at hs'
  obtain rfl := Host.Outcome.next.inj hs'
  split
  · exact engineHeld_of_reset rfl
  · exact h

theorem engineHeld_execTransmissionEnd (h : EngineHeld s) (hs' : execTransmissionEnd s = .next s') : EngineHeld s' := by
  refine engineHeld_event h ?_ hs'
  split
  · split
    · exact EngineHeld.settle (engineHeld_of_reset rfl)
    · exact h
  · exact h

theorem engineHeld_detectBreak (h : EngineHeld s) : EngineHeld (detectBreak s) := by
  unfold detectBreak
  split
  · exact (engineHeld_breakEffects h).settle
  · exact h

theorem engineHeld_execLineReturnsToIdle (h : EngineHeld s) (hs' : execLineReturnsToIdle s = .next s') :
    EngineHeld s' :=
  engineHeld_event h ((engineHeld_detectBreak h).of_eq (by simp) (by simp)) hs'

/-! ## The Dispatcher, the Route Cache and the loader -/

theorem engineHeld_execDispatch (h : EngineHeld s) (hs' : execDispatch s = .next s') : EngineHeld s' := by
  refine engineHeld_event h ?_ hs'
  split
  · exact (engineHeld_dispatchFrame (s := dropIntakeHead s) h _).settle
  · exact h

theorem engineHeld_execFillCompletion (h : EngineHeld s) (hs' : execFillCompletion s = .next s') : EngineHeld s' := by
  refine engineHeld_event h ?_ hs'
  split
  · exact (engineHeld_fillResult (s := freePort s) h ..).settle
  · exact EngineHeld.settle (s := freePort s) h
  · exact h

theorem engineHeld_execFillRefusal {i : SlotNo} (h : EngineHeld s) (hs' : execFillRefusal i s = .next s') :
    EngineHeld s' := by
  refine engineHeld_event h ?_ hs'
  split
  · exact (engineHeld_fillRefused (by exact h) i).settle
  · exact h

theorem engineHeld_execChunkCompletion (h : EngineHeld s) (hs' : execChunkCompletion s = .next s') : EngineHeld s' := by
  refine engineHeld_event h ?_ hs'
  split
  · exact (engineHeld_chunkArrived (s := freePort s) h ..).settle
  · exact EngineHeld.settle (s := freePort s) h
  · exact h

theorem engineHeld_loaderArrived (h : EngineHeld s) (k : Fin 33) (record : Option LoadedRecord) (bad : Nat)
    (bytes : List Byte) : EngineHeld (loaderArrived k record bad bytes s) := by
  unfold loaderArrived
  split
  · exact h
  · have hwritten : EngineHeld (writeChunk (Fin.ofNat 32 (k.val - 1)) bytes s) := h.of_eq (by simp) (by simp)
    dsimp only
    split
    · exact hwritten.of_eq (by simp [applyLoad, reportInvalid, apply_ite]) (by simp [applyLoad, reportInvalid, apply_ite])
    · exact hwritten

theorem engineHeld_execLoaderReadCompletion (h : EngineHeld s) (hs' : execLoaderReadCompletion s = .next s') :
    EngineHeld s' := by
  refine engineHeld_event h ?_ hs'
  split
  · exact (engineHeld_loaderArrived (s := freePort s) h ..).settle
  · exact h

/-! ## The branch ports -/

theorem engineHeld_execBranchTransmissionEnd {b : Branch} {heard : List Byte} (h : EngineHeld s)
    (hs' : execBranchTransmissionEnd b heard s = .next s') : EngineHeld s' := by
  refine engineHeld_event h ?_ hs'
  split
  · split
    · exact engineHeld_goodEcho h ..
    · exact engineHeld_faultyEcho h ..
  · exact h

theorem engineHeld_execTransmitWatchdogExpiry {b : Branch} (h : EngineHeld s)
    (hs' : execTransmitWatchdogExpiry b s = .next s') : EngineHeld s' := by
  refine engineHeld_event h ?_ hs'
  split
  · exact engineHeld_shutDown h ..
  · exact h

theorem engineHeld_execResponseTimerExpiry {b : Branch} (h : EngineHeld s)
    (hs' : execResponseTimerExpiry b s = .next s') : EngineHeld s' := by
  refine engineHeld_event h ?_ hs'
  split
  · exact engineHeld_failAttempt (by exact h) ..
  · exact h

theorem engineHeld_execBranchFrameHeard {b : Branch} {bytes : List Byte} (h : EngineHeld s)
    (hs' : execBranchFrameHeard b bytes s = .next s') : EngineHeld s' := by
  refine engineHeld_event h ?_ hs'
  split
  · exact engineHeld_hearReply h ..
  · exact h
  · exact h

/-! ## Answers to management requests (R165) -/

theorem engineHeld_reply (h : EngineHeld s) (t : Tag) (result : ResultCode) (data : List Byte) :
    EngineHeld (reply t result data s) := h.of_eq (by simp) (by simp)

/-- A command executed from the head of the Management Queue keeps what its body keeps. -/
theorem engineHeld_command {code : Nat → Bool} {body : Tag → List Byte → State → State} (h : EngineHeld s)
    (hs' : event s (whenCommand code body s) = .next s') (hbody : ∀ t params, EngineHeld (body t params s)) :
    EngineHeld s' := by
  refine engineHeld_event h ?_ hs'
  unfold whenCommand
  split
  · split
    · exact hbody ..
    · exact h
  · exact h

/-- A management command that takes no parameters. -/
theorem engineHeld_plainCommand {code : Nat → Bool} {body : Tag → State → State} (h : EngineHeld s)
    (hs' : event s (whenCommand code (withoutParameters body) s) = .next s') (hbody : ∀ t, EngineHeld (body t s)) :
    EngineHeld s' :=
  engineHeld_command h hs' fun t params => by
    unfold withoutParameters
    split
    · exact hbody t
    · exact engineHeld_reply h ..

/-- A command that touches neither the ports, nor the Route Cache, nor the engine. -/
theorem EngineHeld.of_spares (h : EngineHeld s) (hspares : Spares s s') (hiqe : s'.iqe = s.iqe) : EngineHeld s' :=
  h.of_eq hiqe hspares.1

/-! ## The commands that leave the engine as it was -/

theorem iqe_setConfigCommand (t : Tag) (params : List Byte) (s : State) : (setConfigCommand t params s).iqe = s.iqe := by
  unfold setConfigCommand
  split <;> simp [applyConfig]

theorem iqe_setEventMaskCommand (t : Tag) (params : List Byte) (s : State) :
    (setEventMaskCommand t params s).iqe = s.iqe := by
  unfold setEventMaskCommand
  split <;> simp

theorem iqe_faultClearCommand (t : Tag) (params : List Byte) (s : State) :
    (faultClearCommand t params s).iqe = s.iqe := by
  unfold faultClearCommand
  split <;> simp

theorem iqe_unitStatusReadCommand (t : Tag) (params : List Byte) (s : State) :
    (unitStatusReadCommand t params s).iqe = s.iqe := by
  unfold unitStatusReadCommand
  dsimp only
  split <;> simp

theorem iqe_countersReadCommand (t : Tag) (params : List Byte) (s : State) :
    (countersReadCommand t params s).iqe = s.iqe := by
  unfold countersReadCommand
  split <;> simp

theorem iqe_cacheReadCommand (t : Tag) (params : List Byte) (s : State) : (cacheReadCommand t params s).iqe = s.iqe := by
  unfold cacheReadCommand
  split <;> simp

theorem iqe_writeEnableCommand (t : Tag) (s : State) : (writeEnableCommand t s).iqe = s.iqe := by
  unfold writeEnableCommand
  split <;> simp

theorem iqe_operationCommand (t : Tag) (o : StoreOp) (refuses : Bool) (s : State) :
    (operationCommand t o refuses s).iqe = s.iqe := by
  unfold operationCommand
  split <;> simp

theorem iqe_programCommand (t : Tag) (params : List Byte) (s : State) : (programCommand t params s).iqe = s.iqe := by
  unfold programCommand
  split
  · simp
  · exact iqe_operationCommand ..

theorem iqe_eraseCommand (t : Tag) (params : List Byte) (s : State) : (eraseCommand t params s).iqe = s.iqe := by
  unfold eraseCommand
  split
  · simp
  · exact iqe_operationCommand ..

theorem iqe_resumeCommand (t : Tag) (s : State) : (resumeCommand t s).iqe = s.iqe := by
  unfold resumeCommand
  split <;> simp

theorem iqe_protectCommand (t : Tag) (params : List Byte) (s : State) : (protectCommand t params s).iqe = s.iqe := by
  unfold protectCommand
  split
  · simp
  · split
    · simp
    · split <;> simp

theorem iqe_startActivation (t : Tag) (s : State) : (startActivation t s).iqe = s.iqe := by
  unfold startActivation
  split <;> simp

theorem iqe_enableCommand (t : Tag) (b : Branch) (s : State) : (enableCommand t b s).iqe = s.iqe := by
  unfold enableCommand
  split <;> simp [replyPort]

/-! ## The commands on the engine (R108, R119) -/

theorem engineHeld_queueInvalidationCommand (h : EngineHeld s) (t : Tag) (params : List Byte) :
    EngineHeld (queueInvalidationCommand t params s) := by
  unfold queueInvalidationCommand
  dsimp only
  split
  case isTrue => exact engineHeld_reply h ..
  case isFalse hlength =>
    split
    case isTrue => exact engineHeld_reply h ..
    case isFalse =>
      have hsome : decodeDescriptors params ≠ [] := decodeDescriptors_ne_nil (by simp at hlength; omega)
      have happended : EngineHeld { s with iqe := s.iqe.append (decodeDescriptors params) } :=
        ⟨engineSound_append h.1 hsome, fun hstate => h.2 ((append_waitingFence_iff ..).1 hstate)⟩
      exact engineHeld_reply happended ..

theorem engineHeld_iqRecoverCommand (h : EngineHeld s) (t : Tag) : EngineHeld (iqRecoverCommand t s) := by
  unfold iqRecoverCommand
  split
  · have hdiscarded : EngineHeld { s with iqe := s.iqe.discardHead } :=
      engineHeld_of_not_waiting (engineSound_removeHead h.1 rfl rfl rfl) (stateAfterHead_ne_waitingFence _)
    exact engineHeld_reply hdiscarded ..
  · exact engineHeld_reply h ..

/-! ## The other commands with parts of their own (R18, R64, R68, R70, R141) -/

theorem engineHeld_cancelCommand (h : EngineHeld s) (t : Tag) (params : List Byte) :
    EngineHeld (cancelCommand t params s) := by
  unfold cancelCommand
  split
  · exact engineHeld_reply h ..
  · exact engineHeld_reply (engineHeld_cancelTransaction h _) ..

theorem engineHeld_disableCommand (h : EngineHeld s) (t : Tag) (b : Branch) : EngineHeld (disableCommand t b s) := by
  unfold disableCommand
  dsimp only
  split
  · exact engineHeld_reply (engineHeld_dropQueue (by exact h) b) ..
  · exact engineHeld_reply (by exact h) ..

theorem engineHeld_portControl (h : EngineHeld s) {action : PortAction} {body : Tag → Branch → State → State}
    (hbody : ∀ t b, EngineHeld (body t b s)) (t : Tag) (params : List Byte) :
    EngineHeld (portControl action body t params s) := by
  unfold portControl
  split
  · split
    · exact hbody ..
    · exact h
  · exact engineHeld_reply h ..

theorem engineHeld_activatePolicy (h : EngineHeld s) {mode : ActivationMode} {body : Tag → State → State}
    (hbody : ∀ t, EngineHeld (body t s)) (t : Tag) (params : List Byte) :
    EngineHeld (activatePolicy mode body t params s) := by
  unfold activatePolicy
  split
  · split
    · exact hbody t
    · exact h
  · exact engineHeld_reply h ..

theorem engineHeld_storeReadCommand (h : EngineHeld s) (t : Tag) (params : List Byte) :
    EngineHeld (storeReadCommand t params s) := by
  unfold storeReadCommand
  dsimp only
  split
  · exact engineHeld_reply h ..
  · split
    · exact engineHeld_reply h ..
    · split
      · exact engineHeld_reply h ..
      · exact EngineHeld.settle (by exact h)

theorem engineHeld_execStoreReadCompletion (h : EngineHeld s) (hs' : execStoreReadCompletion s = .next s') :
    EngineHeld s' := by
  refine engineHeld_event h ?_ hs'
  split
  · refine EngineHeld.settle ?_
    unfold finishStoreRead
    split
    · exact engineHeld_reply (by exact h) ..
    · exact h
    · exact h
  · exact EngineHeld.settle (s := freePort s) h
  · exact h

/-! ## Every command, and every step -/

/-- Every command of the opcode table keeps the engine sound and a waiting FENCE on an undrained cache. -/
theorem engineHeld_exec (h : EngineHeld s) {c : Instr} (hs' : exec c s = .next s') : EngineHeld s' := by
  cases c with
  | powerOn => exact engineHeld_execPowerOn hs'
  | powerLoss => exact engineHeld_execPowerLoss h hs'
  | lineEntersBreak received => exact engineHeld_event h (by split <;> exact h) hs'
  | lineReturnsToIdle => exact engineHeld_execLineReturnsToIdle h hs'
  | trunkBreak => exact engineHeld_event h (engineHeld_detectBreak h) hs'
  | frameCompletion frame => exact engineHeld_event_of_eq h (by split <;> simp) (by split <;> simp) hs'
  | dispatch => exact engineHeld_execDispatch h hs'
  | fillCompletion => exact engineHeld_execFillCompletion h hs'
  | fillRefusal slot => exact engineHeld_execFillRefusal h hs'
  | takeHead branch => exact engineHeld_event_of_eq h (by split <;> simp) (by split <;> simp) hs'
  | branchTransmissionEnd branch heard => exact engineHeld_execBranchTransmissionEnd h hs'
  | transmitWatchdogExpiry branch => exact engineHeld_execTransmitWatchdogExpiry h hs'
  | responseTimerExpiry branch => exact engineHeld_execResponseTimerExpiry h hs'
  | branchFrameHeard branch bytes => exact engineHeld_execBranchFrameHeard h hs'
  | startOfTransmission => exact engineHeld_event h (by split <;> exact h) hs'
  | transmissionEnd => exact engineHeld_execTransmissionEnd h hs'
  | operationCompletion => exact engineHeld_event_of_eq h (by split <;> simp) (by split <;> simp) hs'
  | suspendEffective => exact engineHeld_event_of_eq h (by split <;> simp) (by split <;> simp) hs'
  | holdoffExpiry => exact engineHeld_event_of_eq h (by split <;> simp) (by split <;> simp) hs'
  | storeReadCompletion => exact engineHeld_execStoreReadCompletion h hs'
  | chunkCompletion => exact engineHeld_execChunkCompletion h hs'
  | loaderReadCompletion => exact engineHeld_execLoaderReadCompletion h hs'
  | intervalTimerExpiry => exact engineHeld_event h (by split <;> exact h) hs'
  | processingEvent => exact engineHeld_execProcessingEvent h hs'
  | identify => exact engineHeld_plainCommand h hs' fun t => engineHeld_reply h ..
  | readConfig => exact engineHeld_plainCommand h hs' fun t => engineHeld_reply h ..
  | setConfig =>
    exact engineHeld_command h hs' fun t params => h.of_spares (spares_setConfigCommand ..) (iqe_setConfigCommand ..)
  | events => exact engineHeld_plainCommand h hs' fun t => engineHeld_reply (s := clearLatches s) h ..
  | setEventMask =>
    exact engineHeld_command h hs' fun t params => h.of_spares (spares_setEventMaskCommand ..) (iqe_setEventMaskCommand ..)
  | faultRead => exact engineHeld_plainCommand h hs' fun t => engineHeld_reply h ..
  | faultClear =>
    exact engineHeld_command h hs' fun t params => h.of_spares (spares_faultClearCommand ..) (iqe_faultClearCommand ..)
  | changesRead =>
    exact engineHeld_plainCommand h hs' fun t => engineHeld_reply (s := { s with ust := s.ust.takeChanges }) h ..
  | unitStatusRead =>
    exact engineHeld_command h hs' fun t params =>
      h.of_spares (spares_unitStatusReadCommand ..) (iqe_unitStatusReadCommand ..)
  | countersRead =>
    exact engineHeld_command h hs' fun t params => h.of_spares (spares_countersReadCommand ..) (iqe_countersReadCommand ..)
  | snapshot => exact engineHeld_plainCommand h hs' fun t => engineHeld_reply (s := { s with pm := s.pm.snapshot }) h ..
  | portControlEnable =>
    exact engineHeld_command h hs' <| engineHeld_portControl h fun t b =>
      h.of_spares (spares_enableCommand ..) (iqe_enableCommand ..)
  | portControlDisable =>
    exact engineHeld_command h hs' <| engineHeld_portControl h fun t b => engineHeld_disableCommand h t b
  | portControlReport =>
    exact engineHeld_command h hs' <| engineHeld_portControl h fun t b => engineHeld_reply h ..
  | cancel => exact engineHeld_command h hs' <| engineHeld_cancelCommand h
  | queueInvalidation => exact engineHeld_command h hs' <| engineHeld_queueInvalidationCommand h
  | iqStatus => exact engineHeld_plainCommand h hs' fun t => engineHeld_reply h ..
  | iqRecover => exact engineHeld_plainCommand h hs' <| engineHeld_iqRecoverCommand h
  | storeWriteEnable =>
    exact engineHeld_plainCommand h hs' fun t => h.of_spares (spares_writeEnableCommand ..) (iqe_writeEnableCommand ..)
  | storeWriteDisable => exact engineHeld_plainCommand h hs' fun t => engineHeld_reply (s := setWel false s) h ..
  | storeProgram =>
    exact engineHeld_command h hs' fun t params => h.of_spares (spares_programCommand ..) (iqe_programCommand ..)
  | storeErase =>
    exact engineHeld_command h hs' fun t params => h.of_spares (spares_eraseCommand ..) (iqe_eraseCommand ..)
  | storeSuspend =>
    exact engineHeld_plainCommand h hs' fun t =>
      engineHeld_reply (s := { s with ts := { s.ts with phase := s.ts.judgeSuspend.2 } }) h ..
  | storeResume =>
    exact engineHeld_plainCommand h hs' fun t => h.of_spares (spares_resumeCommand ..) (iqe_resumeCommand ..)
  | storeRead => exact engineHeld_command h hs' <| engineHeld_storeReadCommand h
  | storeStatus => exact engineHeld_plainCommand h hs' fun t => engineHeld_reply h ..
  | storeProtect =>
    exact engineHeld_command h hs' fun t params => h.of_spares (spares_protectCommand ..) (iqe_protectCommand ..)
  | activatePolicyStart =>
    exact engineHeld_command h hs' <| engineHeld_activatePolicy h fun t =>
      h.of_spares (spares_startActivation ..) (iqe_startActivation ..)
  | activatePolicyReport =>
    exact engineHeld_command h hs' <| engineHeld_activatePolicy h fun t => engineHeld_reply h ..
  | cacheRead =>
    exact engineHeld_command h hs' fun t params => h.of_spares (spares_cacheReadCommand ..) (iqe_cacheReadCommand ..)
  | resetBridge =>
    exact engineHeld_plainCommand h hs' fun t => engineHeld_reply (s := { s with mu := { s.mu with halted := some t } }) h ..
  | unknownCommand => exact engineHeld_command h hs' fun t params => engineHeld_reply h ..

theorem engineHeld_step (h : EngineHeld s) (hs' : step s = .next s') : EngineHeld s' := by
  unfold step at hs'
  split at hs'
  case h_1 =>
    obtain rfl := Host.Outcome.next.inj hs'
    unfold tick
    split <;> exact h
  case h_2 c rest _ => exact engineHeld_exec (s := s.withPending rest) h hs'

end Sys2Proof.Machine

namespace Sys2Proof
open Sys2Proof.Machine

/-- Settles O59: every command keeps the engine sound and reports to it what may have drained the cache. -/
theorem engineIsKept : Obligations.EngineIsKept := by
  intro s s' hsound hwaits hstep
  exact engineHeld_step ⟨hsound, hwaits⟩ hstep

end Sys2Proof
end

section
/-!
QUEUE-INVALIDATION, IQ-STATUS and IQ-RECOVER answered (O22, O8): what each replies and what it leaves of the queue (R106, R108, R119, R120).
-/

namespace Sys2Proof.Machine

/-! ## IQ-STATUS and IQ-RECOVER (R119, R120, R180) -/

theorem exec_iqStatus {s : State} {t : Tag} {params : List Byte} (h : Ready s t 14 params) :
    exec .iqStatus s = .next
      (if params = [] then answered t .accepted (engineReport s.iqe) s else answered t .badParameter [] s) := by
  have hunit : (s.tag t).unit = 0 := h.2.2.2.1
  rw [exec, execIqStatus, event_of_powered h.1, whenCommand_of_ready h (by decide), withoutParameters, iqStatusCommand,
    reply_eq_answered hunit, reply_eq_answered hunit]
  simp only [List.isEmpty_iff]

/-- The byte that says which of the two records are present (R180). -/
theorem presenceByte_eq (last err : Bool) :
    flagAt 0 last ||| flagAt 1 err = byteOf ((if last = true then 1 else 0) + if err = true then 2 else 0) := by
  cases last <;> cases err <;> rfl

theorem stateAfterHead_eq (rest : List Descriptor) : stateAfterHead rest = if rest = [] then .idle else .running := by
  simp [stateAfterHead]

theorem exec_iqRecover {s : State} {t : Tag} {params : List Byte} (h : Ready s t 15 params) :
    exec .iqRecover s = .next
      (if params = [] then
        if s.iqe.state = .error then answered t .accepted [] { s with iqe := s.iqe.discardHead }
        else answered t .wrongState [] s
      else answered t .badParameter [] s) := by
  have hunit : (s.tag t).unit = 0 := h.2.2.2.1
  rw [exec, execIqRecover, event_of_powered h.1, whenCommand_of_ready h (by decide), withoutParameters, iqRecoverCommand,
    reply_eq_answered (s := { s with iqe := s.iqe.discardHead }) hunit, reply_eq_answered hunit, reply_eq_answered hunit]
  simp only [List.isEmpty_iff]

/-! ## QUEUE-INVALIDATION (R106, R108) -/

theorem exec_queueInvalidation {s : State} {t : Tag} {params : List Byte} (h : Ready s t 13 params) :
    exec .queueInvalidation s = .next (queueInvalidationCommand t params s) := by
  rw [exec, execQueueInvalidation, event_of_powered h.1, whenCommand_of_ready h (by decide)]

/-- A command whose parameters are not those of one to four descriptors is refused (R108, check 1). -/
theorem queueInvalidationCommand_of_length {s : State} {t : Tag} {params : List Byte}
    (h : ¬ (params.length = 4 ∨ params.length = 8 ∨ params.length = 12 ∨ params.length = 16)) :
    queueInvalidationCommand t params s = reply t .badParameter [] s :=
  if_pos (by simpa [not_or, and_assoc] using h)

/-- A command of one to four descriptors is refused when there is no room for all of them, and otherwise all join (R108, checks 2 and 3). -/
theorem queueInvalidationCommand_of_descriptors {s : State} {t : Tag} {params : List Byte} {ds : List Descriptor}
    (h : params.length = 4 ∨ params.length = 8 ∨ params.length = 12 ∨ params.length = 16)
    (hds : decodeDescriptors params = ds) :
    queueInvalidationCommand t params s =
      if 16 - s.iqe.queue.length < ds.length then reply t .queueFull [byteOf (16 - s.iqe.queue.length)] s
      else
        reply t .accepted [s.iqe.nextSeq, byteOf ds.length, byteOf (16 - s.iqe.queue.length - ds.length)]
          { s with iqe := s.iqe.append ds } := by
  subst hds
  exact if_neg (by simpa [or_iff_not_imp_left] using h)

/-- A mapped list numbered in place (R106). -/
theorem numberDescriptors_map {α : Type} (f : α → Descriptor) (seq : Byte) (xs : List α) :
    numberDescriptors seq (xs.map f) = xs.mapIdx fun i x => { f x with seq := seq + byteOf i } := by
  rw [numberDescriptors_eq_mapIdx]
  exact List.ext_getElem (by simp) fun i _ _ => by simp

end Sys2Proof.Machine

namespace Sys2Proof
open Sys2Proof.Machine

/-- Settles O8: the report is read field by field, and an IQ-RECOVER in ERROR discards the head. -/
theorem theEngineReportsAndRecovers : Obligations.TheEngineReportsAndRecovers := by
  refine ⟨fun s t params hready => ?_, fun s t params hready => ?_⟩
  · rw [exec_iqStatus hready, engineReport, presenceByte_eq]
    rcases s.iqe with ⟨queue, state, next, last, err⟩
    cases queue <;> cases last <;> cases err <;> rfl
  · rw [exec_iqRecover hready, InvalidationEngine.discardHead, stateAfterHead_eq]
    by_cases hparams : params = []
    · simp only [hparams, if_true, ne_eq, not_true_eq_false, if_false]
    · simp only [hparams, if_false, ne_eq, not_false_eq_true, if_true]

/-- Settles O22: by the number of parameters, then by the room in the queue; the sequences are those of `numberDescriptors_eq_mapIdx`. -/
theorem invalidationsAreQueued : Obligations.InvalidationsAreQueued := by
  intro s t params hready
  have hunit : (s.tag t).unit = 0 := hready.2.2.2.1
  rw [exec_queueInvalidation hready]
  refine ⟨fun h4 h8 h12 h16 => ?_, fun ds hlow hhigh hparams => ?_⟩
  · rw [queueInvalidationCommand_of_length (by simp [h4, h8, h12, h16]), reply_eq_answered hunit]
  · intro free
    have hlength : params.length = 4 * ds.length := by simp [hparams, List.length_flatMap, Nat.mul_comm]
    have hdecoded := hparams ▸ decodeDescriptors_flatMap ds
    rw [queueInvalidationCommand_of_descriptors (by omega) hdecoded, List.length_map, reply_eq_answered hunit,
      reply_eq_answered (by exact hunit), InvalidationEngine.append, List.length_map, numberDescriptors_map]

end Sys2Proof
end

section
/-!
PROCESSING_EVENT (O42): the head descriptor by its kind and its ranges (R111 to R116).
-/

namespace Sys2Proof.Machine

/-! ## Well-formed descriptors (R111) -/

/-- The first unit of a descriptor is a unit number (R111). -/
def Descriptor.unitOk (d : Descriptor) : Prop := 1 ≤ d.first.toNat ∧ d.first.toNat ≤ 239

/-- The range of a descriptor is a run of unit numbers (R111). -/
def Descriptor.rangeOk (d : Descriptor) : Prop :=
  1 ≤ d.count.toNat ∧ d.unitOk ∧ d.first.toNat + d.count.toNat ≤ 240

variable {s : State} {d : Descriptor} {rest : List Descriptor}

theorem malformed_of_unit (hkind : d.kind = kindUnit) : d.malformed = false ↔ d.unitOk := by
  simp only [Descriptor.malformed, Descriptor.unitOk, hkind, if_true, Bool.or_eq_false_iff, beq_eq_false_iff_ne,
    decide_eq_false_iff_not]
  omega

theorem malformed_of_range (hkind : d.kind = kindRange) : d.malformed = false ↔ d.rangeOk := by
  have hunit : kindRange ≠ kindUnit := by decide
  simp only [Descriptor.malformed, Descriptor.rangeOk, Descriptor.unitOk, hkind, hunit, if_false, if_true,
    Bool.or_eq_false_iff, beq_eq_false_iff_ne, decide_eq_false_iff_not]
  omega

theorem malformed_of_all (hkind : d.kind = kindAll) : d.malformed = false := by
  simp [Descriptor.malformed, hkind, kindAll, kindUnit, kindRange]

theorem malformed_of_fence (hkind : d.kind = kindFence) : d.malformed = false := by
  simp [Descriptor.malformed, hkind, kindFence, kindUnit, kindRange]

/-- A descriptor of an undefined kind is malformed (R111). -/
theorem malformed_of_undefined (hunit : d.kind ≠ kindUnit) (hrange : d.kind ≠ kindRange) (hall : d.kind ≠ kindAll)
    (hfence : d.kind ≠ kindFence) : d.malformed = true := by
  simp [Descriptor.malformed, hunit, hrange, hall, hfence]

theorem malformed_eq_true_iff (d : Descriptor) :
    d.malformed = true ↔
      ¬ ((d.kind = kindUnit ∧ d.unitOk) ∨ (d.kind = kindRange ∧ d.rangeOk) ∨ d.kind = kindAll ∨ d.kind = kindFence) := by
  rw [← Bool.not_eq_false]
  refine not_congr ⟨fun h => ?_, ?_⟩
  · by_cases hunit : d.kind = kindUnit
    · exact .inl ⟨hunit, (malformed_of_unit hunit).1 h⟩
    · by_cases hrange : d.kind = kindRange
      · exact .inr (.inl ⟨hrange, (malformed_of_range hrange).1 h⟩)
      · refine .inr (.inr ?_)
        by_contra hneither
        obtain ⟨hall, hfence⟩ := not_or.1 hneither
        exact Bool.false_ne_true (h.symm.trans (malformed_of_undefined hunit hrange hall hfence))
  · rintro (⟨hunit, hok⟩ | ⟨hrange, hok⟩ | hall | hfence)
    · exact (malformed_of_unit hunit).2 hok
    · exact (malformed_of_range hrange).2 hok
    · exact malformed_of_all hall
    · exact malformed_of_fence hfence

/-! ## The processing event (R112 to R116) -/

theorem exec_processingEvent (hpowered : s.powered = true) (hstate : s.iqe.state = .running)
    (hqueue : s.iqe.queue = d :: rest) : exec .processingEvent s = .next (processHead d s) := by
  rw [exec, execProcessingEvent, event_of_powered hpowered, hstate, hqueue]

theorem processHead_of_malformed (h : d.malformed = true) : processHead d s = enterError d s := if_pos h

theorem processHead_of_fence (hkind : d.kind = kindFence) : processHead d s = performFence s := by
  simp [processHead, malformed_of_fence hkind, hkind]

theorem processHead_of_invalidation (hwell : d.malformed = false) (hkind : d.kind ≠ kindFence) :
    processHead d s = completeDescriptor d (performInvalidation d s) := by
  simp [processHead, hwell, hkind]

/-- The engine after its head has completed (R115, R116). -/
def InvalidationEngine.completed (q : InvalidationEngine) (d : Descriptor) (rest : List Descriptor) (performed : Byte) :
    InvalidationEngine :=
  { q with
    queue := rest
    state := if rest = [] then .idle else .running
    lastCompletion := some { seq := d.seq, requested := d.kind, performed := performed } }

/-- A performed descriptor leaves the head, and only the invalidations of its kind reach the cache (R113 to R115). -/
theorem completeDescriptor_performInvalidation (hqueue : s.iqe.queue = d :: rest) :
    completeDescriptor d (performInvalidation d s) =
      { performInvalidation d s with iqe := s.iqe.completed d rest d.performedKind } := by
  have hiqe : (performInvalidation d s).iqe = s.iqe := by simp
  rw [completeDescriptor, hiqe, hqueue, List.tail_cons, stateAfterHead_eq, InvalidationEngine.completed]

theorem performedKind_of_wide (hkind : d.kind = kindRange) (hwide : 8 < d.count.toNat) : d.performedKind = kindAll :=
  if_pos ⟨hkind, hwide⟩

theorem performedKind_of_narrow (hnarrow : d.kind = kindRange → d.count.toNat ≤ 8) : d.performedKind = d.kind :=
  if_neg fun hwide => absurd (hnarrow hwide.1) (by omega)

theorem performInvalidation_of_all (h : d.performedKind = kindAll) : performInvalidation d s = invalidateAll s := if_pos h

theorem performInvalidation_of_units (h : d.performedKind ≠ kindAll) :
    performInvalidation d s = d.units.foldl (fun u unit => invalidateUnit unit u) s := if_neg h

/-- A UNIT or RANGE descriptor of at most 8 units is performed unit by unit (R113, R115). -/
theorem processHead_of_units (hqueue : s.iqe.queue = d :: rest) (hwell : d.malformed = false)
    (hkind : d.kind = kindUnit ∨ d.kind = kindRange ∧ d.count.toNat ≤ 8) :
    processHead d s =
      { d.units.foldl (fun u unit => invalidateUnit unit u) s with iqe := s.iqe.completed d rest d.kind } := by
  have hperformed : d.performedKind = d.kind := performedKind_of_narrow fun hrange => by
    rcases hkind with hunit | ⟨-, hcount⟩
    · exact absurd (hunit.symm.trans hrange) (by decide)
    · exact hcount
  have hneither : d.kind ≠ kindFence ∧ d.kind ≠ kindAll := by
    rcases hkind with hunit | ⟨hrange, -⟩
    · rw [hunit]; decide
    · rw [hrange]; decide
  rw [processHead_of_invalidation hwell hneither.1, completeDescriptor_performInvalidation hqueue,
    performInvalidation_of_units (hperformed ▸ hneither.2), hperformed]

/-- An ALL descriptor, or one performed as ALL, invalidates every slot (R114, R115). -/
theorem processHead_of_all (hqueue : s.iqe.queue = d :: rest) (hwell : d.malformed = false)
    (hperformed : d.performedKind = kindAll) :
    processHead d s = { invalidateAll s with iqe := s.iqe.completed d rest kindAll } := by
  have hkind : d.kind ≠ kindFence := fun hfence => by
    rw [performedKind_of_narrow fun hrange => absurd (hfence.symm.trans hrange) (by decide), hfence] at hperformed
    exact absurd hperformed (by decide)
  rw [processHead_of_invalidation hwell hkind, completeDescriptor_performInvalidation hqueue,
    performInvalidation_of_all hperformed, hperformed]

theorem performFence_of_drained (hqueue : s.iqe.queue = d :: rest) (hkind : d.kind = kindFence)
    (h : s.rc.drained = true) :
    performFence s =
      { s with
        iqe := s.iqe.completed d rest kindFence
        es := { s.es with fenceNotify := s.es.fenceNotify || d.notify } } := by
  rw [performFence, if_pos h, completeFence, hqueue, InvalidationEngine.completed, hkind, ← stateAfterHead_eq]
  rfl

theorem performFence_of_undrained (h : ¬ s.rc.drained = true) :
    performFence s = { s with iqe := { s.iqe with state := .waitingFence } } := if_neg h

end Sys2Proof.Machine

namespace Sys2Proof
open Sys2Proof.Machine

/-- Settles O42, by whether the head is malformed and by its kind. -/
theorem descriptorsAreProcessed : Obligations.DescriptorsAreProcessed := by
  intro s d rest hpowered hstate hqueue unitOk rangeOk wellFormed completed invalidated
  rw [exec_processingEvent hpowered hstate hqueue]
  refine ⟨fun hmalformed => ?_, fun hunit hok => ?_, fun hrange hok hcount => ?_, fun hall => ?_, fun hfence => ?_⟩
  · rw [processHead_of_malformed ((malformed_eq_true_iff d).2 hmalformed)]
    rfl
  · have hunits : d.units = [d.first] := if_pos hunit
    rw [processHead_of_units hqueue ((malformed_of_unit hunit).2 hok) (.inl hunit), hunit, hunits]
    rfl
  · have hunits : d.units = (List.range d.count.toNat).map fun i => byteOf (d.first.toNat + i) :=
      if_neg (by rw [hrange]; decide)
    rw [processHead_of_units hqueue ((malformed_of_range hrange).2 hok) (.inr ⟨hrange, hcount⟩), hrange, hunits]
    rfl
  · rcases hall with hall | ⟨hrange, hok, hwide⟩
    · have hperformed : d.performedKind = kindAll := by
        rw [performedKind_of_narrow fun hrange => absurd (hall.symm.trans hrange) (by decide), hall]; rfl
      rw [processHead_of_all hqueue (malformed_of_all hall) hperformed]
      rfl
    · rw [processHead_of_all hqueue ((malformed_of_range hrange).2 hok) (performedKind_of_wide hrange hwide)]
      rfl
  · rw [processHead_of_fence hfence]
    split
    case isTrue hdrained =>
      rw [performFence_of_drained hqueue hfence ((drained_iff s.rc).2 hdrained)]
      rfl
    case isFalse hundrained => rw [performFence_of_undrained (mt (drained_iff s.rc).1 hundrained)]

end Sys2Proof
end

section
/-!
A sound Table Store and the ways in which its operations, its suspend phase, WEL and the holdoff change (R124 to R134). Soundness reads nothing else of the store: where only the read port, the waiting reads or the protection change, the old store's soundness is the new one's by definition.
-/

namespace Sys2Proof.Machine

variable {t : TableStore}

/-! ## What a sound store says of its operations and its phase (R125) -/

theorem StoreSound.inStore_of_active (h : StoreSound t) {o : Operation} (ho : t.active = some o) :
    o.op.inStore = true := by
  obtain ⟨-, hactive, -⟩ := h
  simpa [ho] using hactive

theorem StoreSound.inStore_of_suspended (h : StoreSound t) {o : Operation} (ho : t.suspended = some o) :
    o.op.inStore = true := by
  obtain ⟨-, -, hsuspended, -⟩ := h
  simpa [ho] using hsuspended

/-- A suspended operation stands under a SUSPENDED phase, and the holdoff is stopped. -/
theorem StoreSound.phase_of_suspended (h : StoreSound t) {o : Operation} (ho : t.suspended = some o) :
    (∃ owner, t.phase = .suspended owner) ∧ t.holdoff = none := by
  obtain ⟨-, -, -, -, -, hphase, -⟩ := h
  unfold TableStore.phaseAgrees at hphase
  split at hphase
  case h_1 => simp [ho] at hphase
  case h_2 => simp [ho] at hphase
  case h_3 owner hsuspended => exact ⟨⟨owner, hsuspended⟩, by simpa [ho] using hphase⟩

/-- A store whose phase is SUSPENDING has an active operation, no suspended one and no holdoff. -/
theorem StoreSound.of_suspending (h : StoreSound t) {owner : Owner} (hphase : t.phase = .suspending owner) :
    t.active.isSome = true ∧ t.suspended = none ∧ t.holdoff = none := by
  obtain ⟨-, -, -, -, -, hagrees, -⟩ := h
  simpa [TableStore.phaseAgrees, hphase, and_assoc] using hagrees

/-- Without a suspended operation the phase is none or SUSPENDING. -/
theorem StoreSound.phase_of_unsuspended (h : StoreSound t) (ho : t.suspended = none)
    (hphase : t.phase.isSuspending = false) : t.phase = .noSuspension := by
  obtain ⟨-, -, -, -, -, hagrees, -⟩ := h
  cases hp : t.phase with
  | noSuspension => rfl
  | suspending owner => simp [hp, SuspendPhase.isSuspending] at hphase
  | suspended owner => simp [TableStore.phaseAgrees, hp, ho] at hagrees

/-! ## How a sound store changes -/

/-- A suspension begins, or passes to another owner (R131, R139). -/
theorem StoreSound.suspending (h : StoreSound t) (hactive : t.active.isSome = true) (hsuspended : t.suspended = none)
    (hholdoff : t.holdoff = none) (owner : Owner) : StoreSound { t with phase := .suspending owner } := by
  obtain ⟨hwf, ha, hs, hwel, hidle, -, hnesting⟩ := h
  exact ⟨hwf, ha, hs, hwel, hidle, by simp [TableStore.phaseAgrees, hactive, hsuspended, hholdoff], hnesting⟩

/-- The suspension that has taken effect passes to another owner (R131). -/
theorem StoreSound.changeOwner (h : StoreSound t) {owner : Owner} (hphase : t.phase = .suspended owner) (new : Owner) :
    StoreSound { t with phase := .suspended new } := by
  obtain ⟨hwf, ha, hs, hwel, hidle, hagrees, hnesting⟩ := h
  exact ⟨hwf, ha, hs, hwel, hidle, by simpa [TableStore.phaseAgrees, hphase] using hagrees, hnesting⟩

/-- The suspension takes effect: the active operation becomes the suspended one (R132). -/
theorem StoreSound.suspend (h : StoreSound t) {owner : Owner} {o : Operation} (hphase : t.phase = .suspending owner)
    (ho : t.active = some o) :
    StoreSound { t with active := none, suspended := some o, phase := .suspended owner } := by
  obtain ⟨-, -, hholdoff⟩ := h.of_suspending hphase
  have hinStore := h.inStore_of_active ho
  obtain ⟨hwf, -⟩ := h
  exact ⟨hwf, rfl, by simpa using hinStore, fun _ => rfl, fun _ => hholdoff,
    by simp [TableStore.phaseAgrees, hholdoff], rfl⟩

/-- The suspended operation becomes the active one (R133, R134). -/
theorem StoreSound.resumed (h : StoreSound t) {o : Operation} (ho : t.suspended = some o) (time : Nat) :
    StoreSound
      { t with active := some o, suspended := none, phase := .noSuspension, wel := false, holdoff := some time } := by
  have hinStore := h.inStore_of_suspended ho
  obtain ⟨hwf, -⟩ := h
  exact ⟨hwf, by simpa using hinStore, rfl, fun hwel => by simp at hwel, fun hnone => by simp at hnone, rfl, rfl⟩

/-- The active operation completes: a suspended one stays, and a SUSPENDING phase returns to none (R126). -/
theorem StoreSound.completed (h : StoreSound t) (o : StoreOp) :
    StoreSound
      { t with
        contents := applyOp (fun _ => true) t.contents o
        active := none
        phase := if t.phase.isSuspending then .noSuspension else t.phase
        holdoff := none } := by
  obtain ⟨hwf, -, hs, -, -, hagrees, -⟩ := h
  refine ⟨Memory.wf_applyOp _ _ hwf, rfl, hs, fun _ => rfl, fun _ => rfl, ?_, rfl⟩
  cases hphase : t.phase <;> simp_all [TableStore.phaseAgrees, SuspendPhase.isSuspending]

/-- The holdoff stops (R134). -/
theorem StoreSound.holdoffEnds (h : StoreSound t) : StoreSound { t with holdoff := none } := by
  obtain ⟨hwf, ha, hs, hwel, -, hagrees, hnesting⟩ := h
  refine ⟨hwf, ha, hs, hwel, fun _ => rfl, ?_, hnesting⟩
  cases hphase : t.phase <;> simp_all [TableStore.phaseAgrees]

/-- An operation begins beside no operation, or as a program beside a suspended erase of another sector (R128, R129, R135). -/
theorem StoreSound.started (h : StoreSound t) (hidle : t.active = none) {o : StoreOp} (hinStore : o.inStore = true)
    (hnesting : ∀ x, t.suspended = some x → o.isProgram = true ∧ x.op.isProgram = false ∧ o.sector ≠ x.op.sector) :
    StoreSound { t with wel := false, active := some { op := o, ran := 0 } } := by
  obtain ⟨hwf, -, hs, -, hholdoff, hagrees, -⟩ := h
  refine ⟨hwf, by simpa using hinStore, hs, fun hwel => by simp at hwel, fun hnone => by simp at hnone, ?_, ?_⟩
  · cases hphase : t.phase <;> simp_all [TableStore.phaseAgrees]
  · cases hsuspended : t.suspended with
    | none => rfl
    | some x => simpa [TableStore.nestingAgrees, hsuspended, and_assoc] using hnesting x hsuspended

/-- WEL is set while no operation is active, and cleared at any time (R127). -/
theorem StoreSound.setWel (h : StoreSound t) {b : Bool} (hb : b = true → t.active = none) :
    StoreSound { t with wel := b } := by
  obtain ⟨hwf, ha, hs, -, hrest⟩ := h
  exact ⟨hwf, ha, hs, hb, hrest⟩

/-- Its clocks run (R125, R126, R134). -/
theorem StoreSound.age (h : StoreSound t) : StoreSound t.age := by
  obtain ⟨hwf, ha, hs, hwel, hholdoff, hagrees, hnesting⟩ := h
  refine ⟨hwf, ?_, hs, fun hset => ?_, fun hnone => ?_, ?_, ?_⟩
  · simpa [TableStore.age, Operation.age, Option.all_map, Function.comp_def] using ha
  · simp [TableStore.age, hwel hset]
  · simp [TableStore.age, runDown, hholdoff (by simpa [TableStore.age] using hnone)]
  · cases hphase : t.phase <;> simp_all [TableStore.phaseAgrees, TableStore.age, runDown]
  · cases hactive : t.active with
    | none => simp [TableStore.nestingAgrees, TableStore.age, hactive]
    | some o =>
      cases hsuspended : t.suspended with
      | none => simp [TableStore.nestingAgrees, TableStore.age, hactive, hsuspended]
      | some x =>
        simpa [TableStore.nestingAgrees, TableStore.age, Operation.age, hactive, hsuspended] using hnesting

/-- A store without operations, suspension, WEL and holdoff is sound when its contents are canonical (R144). -/
theorem storeSound_at_rest {contents : List Host.Cell} (hwf : Memory.wf contents) (reading : Option PortRead) :
    StoreSound { TableStore.reset with contents := contents, reading := reading } :=
  ⟨hwf, rfl, rfl, fun _ => rfl, fun _ => rfl, rfl, rfl⟩

/-- A power loss leaves the contents canonical, whatever it leaves of an operation's target (R143). -/
theorem wf_contentsAfterLoss (n : Nat) (hwf : Memory.wf t.contents) : Memory.wf (contentsAfterLoss n t) := by
  have hlost : ∀ (o : Option Operation) {m : List Host.Cell}, Memory.wf m → Memory.wf (lostOperation n o m) := by
    intro o m hm
    cases o with
    | none => exact hm
    | some o => exact Memory.wf_applyOp _ _ hm
  exact hlost _ (hlost _ hwf)

end Sys2Proof.Machine
end

section
/-!
The operations that act on the Table Store keep it sound: the judgement of fills, resumes, the settling at the end of an event (R136 to R140), and the lookups, fills, releases and breaks that issue fills and withdraw them. A hypothesis written `by exact h` speaks of an earlier state whose store differs, if at all, in the reads only.
-/

namespace Sys2Proof.Machine

variable {s s' : State}

/-- The store is sound in another state that has the same one. -/
theorem storeSound_of_eq (h : StoreSound s.ts) (hts : s'.ts = s.ts) : StoreSound s'.ts := hts ▸ h

/-- A fold whose every step keeps the store sound. -/
theorem storeSound_foldl {α : Type} {f : State → α → State} (h : StoreSound s.ts)
    (hf : ∀ s x, StoreSound s.ts → StoreSound (f s x).ts) (l : List α) : StoreSound (l.foldl f s).ts :=
  foldl_invariant f (fun s => StoreSound s.ts) hf l s h

/-! ## Fills and resumes (R133, R137 to R140) -/

/-- The last row of R137 is reached beside an active operation that nothing suspends or holds off. -/
theorem judge_beginSuspension {t : TableStore} {auto : Bool} {sector : Nat}
    (h : t.judge auto sector = .beginSuspension) :
    t.active.isSome = true ∧ t.suspended = none ∧ t.holdoff = none := by
  simp only [TableStore.judge, ite_eq_iff, reduceCtorEq, and_false, false_or, and_true] at h
  obtain ⟨-, hactive, -, hsuspended, -, hholdoff⟩ := h
  exact ⟨by simpa [Option.isSome_iff_ne_none] using hactive, by simpa using hsuspended, by simpa using hholdoff⟩

theorem storeSound_judgeFill (h : StoreSound s.ts) (i : SlotNo) (unit : Byte) : StoreSound (judgeFill i unit s).ts := by
  unfold judgeFill
  split
  case h_5 hjudge =>
    obtain ⟨hactive, hsuspended, hholdoff⟩ := judge_beginSuspension hjudge
    exact h.suspending hactive hsuspended hholdoff .auto
  all_goals exact h

theorem storeSound_rejudgeFills (h : StoreSound s.ts) : StoreSound (rejudgeFills s).ts :=
  storeSound_foldl (s := { s with ts := { s.ts with fills := [] } }) h (fun _ _ hs => storeSound_judgeFill hs ..) _

theorem storeSound_resume (h : StoreSound s.ts) : StoreSound (resume s).ts := by
  unfold resume
  split
  case h_1 => exact h
  case h_2 o ho => exact storeSound_rejudgeFills (h.resumed ho _)

theorem storeSound_loaderExamine (h : StoreSound s.ts) : StoreSound (loaderExamine s).ts := by
  unfold loaderExamine
  split
  · split
    · exact storeSound_resume h
    · split <;> exact h
  · exact h

theorem storeSound_arbiter (h : StoreSound s.ts) : StoreSound (arbiter s).ts := by
  unfold arbiter
  (repeat' split) <;> exact h

theorem storeSound_settle (h : StoreSound s.ts) : StoreSound (settle s).ts := by
  have hauto : StoreSound (autoResume s).ts := by
    unfold autoResume
    split
    · exact storeSound_resume h
    · exact h
  exact storeSound_arbiter (storeSound_loaderExamine hauto)

/-! ## Lookups and dispatches (R4 to R10, R29 to R32) -/

theorem storeSound_lookupMiss (h : StoreSound s.ts) (t : Tag) (unit : Byte) : StoreSound (lookupMiss t unit s).ts := by
  unfold lookupMiss
  split
  case h_1 => exact h
  case h_2 i _ =>
    have hfilled : StoreSound (judgeFill i unit (count (.bridge .cacheMisses) (claimSlot t i unit s))).ts :=
      storeSound_judgeFill (by exact h) ..
    dsimp only
    split
    · exact storeSound_of_eq hfilled (by simp)
    · exact hfilled

theorem storeSound_lookup (h : StoreSound s.ts) (t : Tag) : StoreSound (lookup t s).ts := by
  unfold lookup
  dsimp only
  split
  · exact storeSound_lookupMiss h ..
  · split
    · exact storeSound_of_eq h (by simp)
    · exact h
    · exact h

theorem storeSound_classify (h : StoreSound s.ts) (r : RequestFrame) : StoreSound (classify r s).ts := by
  unfold classify
  split
  · unfold managementRequest
    split
    · exact storeSound_of_eq h (by simp)
    · split
      · exact storeSound_of_eq h (by simp)
      · exact h
  · split
    · exact storeSound_of_eq h (by simp)
    · split
      · exact storeSound_of_eq h (by simp [answerQuery])
      · exact storeSound_lookup h _

theorem storeSound_dispatchFrame (h : StoreSound s.ts) (r : RequestFrame) : StoreSound (dispatchFrame r s).ts := by
  unfold dispatchFrame
  split
  · exact h
  · have hfilled : StoreSound (fillRecord r s).ts := storeSound_of_eq h (by simp)
    split
    · exact storeSound_of_eq hfilled (by simp [answerBad])
    · exact storeSound_classify hfilled r

/-! ## Fills, releases and breaks (R35 to R39, R45, R61) -/

theorem storeSound_fillResult (h : StoreSound s.ts) (i : SlotNo) (bytes : List Byte) :
    StoreSound (fillResult i bytes s).ts := by
  unfold fillResult
  split
  case h_1 unit waiters _ =>
    have hfilled : StoreSound (judgeFill i unit (s.setSlot i (.filling unit false waiters))).ts :=
      storeSound_judgeFill (by exact h) ..
    rw [fillMarked_eq]
    split
    · exact storeSound_of_eq h (by simp)
    · exact storeSound_of_eq hfilled (by simp)
  case h_2 =>
    split <;> exact storeSound_of_eq h (by simp)
  case h_3 => exact h

theorem storeSound_release (h : StoreSound s.ts) (t : Tag) : StoreSound (release s t).ts := by
  unfold release
  split
  · exact storeSound_of_eq h (by simp)
  · exact storeSound_lookup (by exact h) t

theorem storeSound_chunkArrived (h : StoreSound s.ts) (k : Fin 32) (bad : Nat) (bytes : List Byte) :
    StoreSound (chunkArrived k bad bytes s).ts := by
  unfold chunkArrived
  dsimp only
  split
  · exact storeSound_foldl (by exact h) (fun _ _ hs => storeSound_release hs _) _
  · exact h

theorem storeSound_dropFilling (h : StoreSound s.ts) (i : SlotNo) : StoreSound (dropFilling s i).ts := by
  unfold dropFilling
  split
  · have hdropped : StoreSound (withdrawFill i (s.setSlot i .empty)).ts := h
    dsimp only
    split
    · exact storeSound_of_eq hdropped (by simp)
    · exact hdropped
  · exact h

theorem storeSound_breakCache (h : StoreSound s.ts) : StoreSound (breakCache s).ts := by
  unfold breakCache
  refine storeSound_foldl ?_ (fun _ i hs => storeSound_dropFilling hs i) _
  exact storeSound_foldl h (fun _ t hs => storeSound_of_eq hs (by simp)) _

theorem storeSound_breakEffects (h : StoreSound s.ts) : StoreSound (breakEffects s).ts := by
  have hcache : StoreSound (breakCache (count (.trunk .breaks) { s with tp := s.tp.broken })).ts :=
    storeSound_breakCache (by exact h)
  exact storeSound_of_eq hcache (by simp only [breakEffects, freeTags])

/-! ## Loads (R173, R174) -/

theorem storeSound_loaderArrived (h : StoreSound s.ts) (k : Fin 33) (record : Option LoadedRecord) (bad : Nat)
    (bytes : List Byte) : StoreSound (loaderArrived k record bad bytes s).ts := by
  have hload : ∀ v, StoreSound (s.ts.loadProtection v) := fun v => by
    unfold TableStore.loadProtection
    split <;> exact h
  unfold loaderArrived
  split
  · exact h
  · dsimp only
    split
    · simpa [applyLoad, reportInvalid, apply_ite] using hload _
    · exact h

end Sys2Proof.Machine
end

section
/-!
Every step keeps the Table Store sound (O57): the events, then the commands of the opcode table.
-/

namespace Sys2Proof.Machine

variable {s s' : State}

/-! ## Events -/

/-- An event keeps what its body keeps, with power and without. -/
theorem storeSound_event {body : State} (h : StoreSound s.ts) (hbody : StoreSound body.ts)
    (hs' : event s body = .next s') : StoreSound s'.ts := by
  unfold event at hs'
  obtain rfl := Host.Outcome.next.inj hs'
  split
  · exact hbody
  · exact h

/-- An event that leaves the store as it was. -/
theorem storeSound_event_of_eq {body : State} (h : StoreSound s.ts) (hts : body.ts = s.ts)
    (hs' : event s body = .next s') : StoreSound s'.ts := storeSound_event h (storeSound_of_eq h hts) hs'

/-! ## Power, reset and the trunk line (R143, R144, R162) -/

theorem storeSound_execPowerOn (h : StoreSound s.ts) (hs' : execPowerOn s = .next s') : StoreSound s'.ts := by
  unfold execPowerOn at hs'
  obtain rfl := Host.Outcome.next.inj hs'
  split
  · exact storeSound_at_rest (wf_contentsAfterLoss _ h.1) _
  · exact storeSound_at_rest h.1 _

theorem storeSound_execPowerLoss (h : StoreSound s.ts) (hs' : execPowerLoss s = .next s') : StoreSound s'.ts := by
  unfold execPowerLoss at hs'
  obtain rfl := Host.Outcome.next.inj hs'
  split
  · exact storeSound_at_rest (wf_contentsAfterLoss _ h.1) _
  · exact h

theorem storeSound_softReset (h : StoreSound s.ts) : StoreSound (softReset s).ts :=
  storeSound_settle (h.setWel (b := false) (fun hset => by simp at hset))

theorem storeSound_execTransmissionEnd (h : StoreSound s.ts) (hs' : execTransmissionEnd s = .next s') :
    StoreSound s'.ts := by
  refine storeSound_event h ?_ hs'
  split
  · split
    · exact storeSound_softReset (by exact h)
    · exact h
  · exact h

theorem storeSound_detectBreak (h : StoreSound s.ts) : StoreSound (detectBreak s).ts := by
  unfold detectBreak
  split
  · exact storeSound_settle (storeSound_breakEffects h)
  · exact h

theorem storeSound_execLineReturnsToIdle (h : StoreSound s.ts) (hs' : execLineReturnsToIdle s = .next s') :
    StoreSound s'.ts := storeSound_event h (storeSound_of_eq (storeSound_detectBreak h) (by simp)) hs'

/-! ## The Dispatcher, the Route Cache and the loader -/

theorem storeSound_execDispatch (h : StoreSound s.ts) (hs' : execDispatch s = .next s') : StoreSound s'.ts := by
  refine storeSound_event h ?_ hs'
  split
  · exact storeSound_settle (storeSound_dispatchFrame (s := dropIntakeHead s) h _)
  · exact h

theorem storeSound_execFillCompletion (h : StoreSound s.ts) (hs' : execFillCompletion s = .next s') :
    StoreSound s'.ts := by
  refine storeSound_event h ?_ hs'
  split
  · exact storeSound_settle (storeSound_fillResult (s := freePort s) h ..)
  · exact storeSound_settle (s := freePort s) h
  · exact h

theorem storeSound_execFillRefusal {i : SlotNo} (h : StoreSound s.ts) (hs' : execFillRefusal i s = .next s') :
    StoreSound s'.ts := by
  refine storeSound_event h ?_ hs'
  split
  · have herased : StoreSound { s.ts with refusedFills := s.ts.refusedFills.erase i } := h
    refine storeSound_settle (storeSound_of_eq (s := { s with ts := _ }) herased ?_)
    simp
  · exact h

theorem storeSound_execChunkCompletion (h : StoreSound s.ts) (hs' : execChunkCompletion s = .next s') :
    StoreSound s'.ts := by
  refine storeSound_event h ?_ hs'
  split
  · exact storeSound_settle (storeSound_chunkArrived (s := freePort s) h ..)
  · exact storeSound_settle (s := freePort s) h
  · exact h

theorem storeSound_execLoaderReadCompletion (h : StoreSound s.ts) (hs' : execLoaderReadCompletion s = .next s') :
    StoreSound s'.ts := by
  refine storeSound_event h ?_ hs'
  split
  · exact storeSound_settle (storeSound_loaderArrived (s := freePort s) h ..)
  · exact h

/-! ## The events of the store (R126, R132, R134) -/

theorem storeSound_execOperationCompletion (h : StoreSound s.ts) (hs' : execOperationCompletion s = .next s') :
    StoreSound s'.ts := by
  refine storeSound_event h ?_ hs'
  split
  case h_1 o _ => exact storeSound_settle (storeSound_rejudgeFills (h.completed o.op))
  case h_2 => exact h

theorem storeSound_execSuspendEffective (h : StoreSound s.ts) (hs' : execSuspendEffective s = .next s') :
    StoreSound s'.ts := by
  refine storeSound_event h ?_ hs'
  split
  case h_1 hphase ho => exact storeSound_settle (storeSound_rejudgeFills (h.suspend hphase ho))
  case h_2 => exact h

theorem storeSound_execHoldoffExpiry (h : StoreSound s.ts) (hs' : execHoldoffExpiry s = .next s') :
    StoreSound s'.ts := by
  refine storeSound_event h ?_ hs'
  split
  · exact storeSound_settle (storeSound_rejudgeFills h.holdoffEnds)
  · exact h

/-! ## Answers to management requests (R165) -/

theorem storeSound_reply (h : StoreSound s.ts) (t : Tag) (result : ResultCode) (data : List Byte) :
    StoreSound (reply t result data s).ts := storeSound_of_eq h (by simp)

/-- A command executed from the head of the Management Queue keeps what its body keeps. -/
theorem storeSound_command {code : Nat → Bool} {body : Tag → List Byte → State → State} (h : StoreSound s.ts)
    (hs' : event s (whenCommand code body s) = .next s') (hbody : ∀ t params, StoreSound (body t params s).ts) :
    StoreSound s'.ts := by
  refine storeSound_event h ?_ hs'
  unfold whenCommand
  split
  · split
    · exact hbody ..
    · exact h
  · exact h

/-- A management command that takes no parameters. -/
theorem storeSound_plainCommand {code : Nat → Bool} {body : Tag → State → State} (h : StoreSound s.ts)
    (hs' : event s (whenCommand code (withoutParameters body) s) = .next s') (hbody : ∀ t, StoreSound (body t s).ts) :
    StoreSound s'.ts :=
  storeSound_command h hs' fun t params => by
    unfold withoutParameters
    split
    · exact hbody t
    · exact storeSound_reply h ..

/-- PORT-CONTROL executed by the row of one action (R68). -/
theorem storeSound_portControl (h : StoreSound s.ts) {action : PortAction} {body : Tag → Branch → State → State}
    (hbody : ∀ t b, StoreSound (body t b s).ts) (t : Tag) (params : List Byte) :
    StoreSound (portControl action body t params s).ts := by
  unfold portControl
  split
  · split
    · exact hbody ..
    · exact h
  · exact storeSound_reply h ..

/-- ACTIVATE-POLICY executed by the row of one mode (R64). -/
theorem storeSound_activatePolicy (h : StoreSound s.ts) {mode : ActivationMode} {body : Tag → State → State}
    (hbody : ∀ t, StoreSound (body t s).ts) (t : Tag) (params : List Byte) :
    StoreSound (activatePolicy mode body t params s).ts := by
  unfold activatePolicy
  split
  · split
    · exact hbody t
    · exact h
  · exact storeSound_reply h ..

/-! ## The commands on the store (R127 to R133, R141) -/

/-- An accepted operation finds no other active, and a suspended one only where its own check lets it pass (R128, R129). -/
theorem judgeOperation_accepted {sector : Nat} {refuses : Bool} (h : judgeOperation s sector refuses = .accepted) :
    s.ts.active = none ∧ refuses = false := by
  simp only [judgeOperation, ite_eq_iff, reduceCtorEq, and_false, false_or] at h
  obtain ⟨hactive, hrefuses, -⟩ := h
  exact ⟨by simpa using hactive, by simpa using hrefuses⟩

theorem storeSound_operationCommand (h : StoreSound s.ts) (t : Tag) {o : StoreOp} (hinStore : o.inStore = true)
    {refuses : Bool}
    (hnesting : refuses = false → ∀ x, s.ts.suspended = some x →
      o.isProgram = true ∧ x.op.isProgram = false ∧ o.sector ≠ x.op.sector) :
    StoreSound (operationCommand t o refuses s).ts := by
  unfold operationCommand
  split
  case h_1 hjudge =>
    obtain ⟨hidle, hpasses⟩ := judgeOperation_accepted hjudge
    exact storeSound_settle (storeSound_reply
      (storeSound_rejudgeFills (h.started hidle hinStore (hnesting hpasses))) ..)
  case h_2 => exact storeSound_reply (s := setWel false s) (h.setWel fun hset => by simp at hset) ..
  case h_3 => exact storeSound_reply h ..

/-- What check 1 of R128 lets pass programs at least one byte, within one page of the store. -/
theorem inStore_of_programRefused {params : List Byte} (h : programRefused params = false) :
    (StoreOp.program (addressOf (byteAt params 0) (byteAt params 1)) (params.drop 2)).inStore = true := by
  simp only [programRefused, Bool.or_eq_false_iff, decide_eq_false_iff_not, not_lt, not_le] at h
  obtain ⟨⟨⟨hshort, -⟩, haddress⟩, hpage⟩ := h
  simp only [StoreOp.inStore, List.length_drop, Bool.and_eq_true, decide_eq_true_eq]
  exact ⟨⟨haddress, by omega⟩, hpage⟩

/-- Check 3 of R128 lets a program pass beside a suspended erase of another sector only. -/
theorem erase_of_suspendedRefusesProgram {t : TableStore} {sector : Nat}
    (h : suspendedRefusesProgram t sector = false) {x : Operation} (hx : t.suspended = some x) :
    x.op.isProgram = false ∧ sector ≠ x.op.sector := by
  obtain ⟨op, ran⟩ := x
  cases op with
  | program a bytes => simp [suspendedRefusesProgram, hx] at h
  | erase k => exact ⟨rfl, fun hsector => by simp [suspendedRefusesProgram, hx, hsector, StoreOp.sector] at h⟩

theorem storeSound_programCommand (h : StoreSound s.ts) (t : Tag) (params : List Byte) :
    StoreSound (programCommand t params s).ts := by
  unfold programCommand
  split
  case isTrue => exact storeSound_reply h ..
  case isFalse hpasses =>
    exact storeSound_operationCommand h t (inStore_of_programRefused (Bool.eq_false_iff.2 hpasses))
      fun hrefuses x hx => ⟨rfl, erase_of_suspendedRefusesProgram hrefuses hx⟩

theorem storeSound_eraseCommand (h : StoreSound s.ts) (t : Tag) (params : List Byte) :
    StoreSound (eraseCommand t params s).ts := by
  unfold eraseCommand
  split
  case isTrue => exact storeSound_reply h ..
  case isFalse hpasses =>
    refine storeSound_operationCommand h t ?_ fun hrefuses x hx => ?_
    · simp only [Bool.or_eq_true, decide_eq_true_eq, not_or] at hpasses
      simp only [StoreOp.inStore, decide_eq_true_eq]
      omega
    · simp [hx] at hrefuses

theorem storeSound_writeEnableCommand (h : StoreSound s.ts) (t : Tag) : StoreSound (writeEnableCommand t s).ts := by
  unfold writeEnableCommand
  split
  case isTrue => exact storeSound_reply h ..
  case isFalse hidle => exact storeSound_reply (s := setWel true s) (h.setWel fun _ => by simpa using hidle) ..

/-- STORE-SUSPEND begins a suspension of an operation that is not nested, or takes over one owned AUTO (R131). -/
theorem storeSound_judgeSuspend {t : TableStore} (h : StoreSound t) :
    StoreSound { t with phase := t.judgeSuspend.2 } := by
  unfold TableStore.judgeSuspend
  split
  case isTrue => exact h
  case isFalse hnested =>
    split
    case h_1 hphase =>
      obtain ⟨hactive, hsuspended, hholdoff⟩ := h.of_suspending hphase
      exact h.suspending hactive hsuspended hholdoff .management
    case h_2 hphase => exact h.changeOwner hphase .management
    case h_3 => exact h
    case h_4 =>
      split
      case isTrue => exact h
      case isFalse hactive =>
        split
        case isTrue => exact h
        case isFalse hholdoff =>
          have hisActive : t.active.isSome = true := by simpa [Option.isSome_iff_ne_none] using hactive
          exact h.suspending hisActive (by simpa [TableStore.nested, hisActive] using hnested)
            (by simpa using hholdoff) .management

theorem storeSound_resumeCommand (h : StoreSound s.ts) (t : Tag) : StoreSound (resumeCommand t s).ts := by
  unfold resumeCommand
  split
  · exact storeSound_settle (storeSound_reply (storeSound_resume h) ..)
  · exact storeSound_reply h ..

theorem storeSound_protectCommand (h : StoreSound s.ts) (t : Tag) (params : List Byte) :
    StoreSound (protectCommand t params s).ts := by
  unfold protectCommand
  split
  · exact storeSound_reply h ..
  · split
    · exact storeSound_reply h ..
    · split
      · exact storeSound_reply h ..
      · refine storeSound_reply ?_ ..
        exact h.setWel (b := false) fun hset => by simp at hset

theorem storeSound_storeReadCommand (h : StoreSound s.ts) (t : Tag) (params : List Byte) :
    StoreSound (storeReadCommand t params s).ts := by
  unfold storeReadCommand
  dsimp only
  split
  · exact storeSound_reply h ..
  · split
    · exact storeSound_reply h ..
    · split
      · exact storeSound_reply h ..
      · exact storeSound_settle (by exact h)

theorem storeSound_execStoreReadCompletion (h : StoreSound s.ts) (hs' : execStoreReadCompletion s = .next s') :
    StoreSound s'.ts := by
  refine storeSound_event h ?_ hs'
  split
  · refine storeSound_settle ?_
    unfold finishStoreRead
    split
    · exact storeSound_reply (by exact h) ..
    · exact h
    · exact h
  · exact storeSound_settle (s := freePort s) h
  · exact h

/-! ## The commands that leave the store as it was -/

theorem storeSound_startActivation (h : StoreSound s.ts) (t : Tag) : StoreSound (startActivation t s).ts := by
  unfold startActivation
  split
  · exact storeSound_reply h ..
  · exact storeSound_settle (storeSound_reply (by exact h) ..)

theorem ts_setConfigCommand (t : Tag) (params : List Byte) (s : State) : (setConfigCommand t params s).ts = s.ts := by
  unfold setConfigCommand
  split <;> simp [applyConfig]

theorem ts_setEventMaskCommand (t : Tag) (params : List Byte) (s : State) :
    (setEventMaskCommand t params s).ts = s.ts := by
  unfold setEventMaskCommand
  split <;> simp

theorem ts_faultClearCommand (t : Tag) (params : List Byte) (s : State) : (faultClearCommand t params s).ts = s.ts := by
  unfold faultClearCommand
  split <;> simp

theorem ts_unitStatusReadCommand (t : Tag) (params : List Byte) (s : State) :
    (unitStatusReadCommand t params s).ts = s.ts := by
  unfold unitStatusReadCommand
  dsimp only
  split <;> simp

theorem ts_countersReadCommand (t : Tag) (params : List Byte) (s : State) :
    (countersReadCommand t params s).ts = s.ts := by
  unfold countersReadCommand
  split <;> simp

theorem ts_cacheReadCommand (t : Tag) (params : List Byte) (s : State) : (cacheReadCommand t params s).ts = s.ts := by
  unfold cacheReadCommand
  split <;> simp

theorem ts_queueInvalidationCommand (t : Tag) (params : List Byte) (s : State) :
    (queueInvalidationCommand t params s).ts = s.ts := by
  unfold queueInvalidationCommand
  dsimp only
  (repeat' split) <;> simp

theorem ts_iqRecoverCommand (t : Tag) (s : State) : (iqRecoverCommand t s).ts = s.ts := by
  unfold iqRecoverCommand
  split <;> simp

theorem ts_enableCommand (t : Tag) (b : Branch) (s : State) : (enableCommand t b s).ts = s.ts := by
  unfold enableCommand
  split <;> simp [replyPort]

theorem ts_disableCommand (t : Tag) (b : Branch) (s : State) : (disableCommand t b s).ts = s.ts := by
  unfold disableCommand
  dsimp only
  split <;> simp [replyPort]

theorem ts_cancelCommand (t : Tag) (params : List Byte) (s : State) : (cancelCommand t params s).ts = s.ts := by
  have hcancel : ∀ v, (cancelTransaction v s).2.ts = s.ts := fun v => by
    unfold cancelTransaction
    split <;> simp
  unfold cancelCommand
  dsimp only
  split <;> simp [hcancel]

theorem ts_processHead (d : Descriptor) (s : State) : (processHead d s).ts = s.ts := by
  unfold processHead
  split
  · rfl
  · split
    · unfold performFence
      split <;> simp
    · simp [completeDescriptor]

/-! ## Every command, and every step -/

/-- Every command of the opcode table keeps the store sound. -/
theorem storeSound_exec (h : StoreSound s.ts) {c : Instr} (hs' : exec c s = .next s') : StoreSound s'.ts := by
  cases c with
  | powerOn => exact storeSound_execPowerOn h hs'
  | powerLoss => exact storeSound_execPowerLoss h hs'
  | lineEntersBreak received => exact storeSound_event_of_eq h (by split <;> rfl) hs'
  | lineReturnsToIdle => exact storeSound_execLineReturnsToIdle h hs'
  | trunkBreak => exact storeSound_event h (storeSound_detectBreak h) hs'
  | frameCompletion frame => exact storeSound_event_of_eq h (by split <;> simp) hs'
  | dispatch => exact storeSound_execDispatch h hs'
  | fillCompletion => exact storeSound_execFillCompletion h hs'
  | fillRefusal slot => exact storeSound_execFillRefusal h hs'
  | takeHead branch => exact storeSound_event_of_eq h (by split <;> simp) hs'
  | branchTransmissionEnd branch heard => exact storeSound_event_of_eq h (by (repeat' split) <;> simp) hs'
  | transmitWatchdogExpiry branch => exact storeSound_event_of_eq h (by split <;> simp) hs'
  | responseTimerExpiry branch => exact storeSound_event_of_eq h (by split <;> simp) hs'
  | branchFrameHeard branch bytes => exact storeSound_event_of_eq h (by split <;> simp) hs'
  | startOfTransmission => exact storeSound_event_of_eq h (by split <;> rfl) hs'
  | transmissionEnd => exact storeSound_execTransmissionEnd h hs'
  | operationCompletion => exact storeSound_execOperationCompletion h hs'
  | suspendEffective => exact storeSound_execSuspendEffective h hs'
  | holdoffExpiry => exact storeSound_execHoldoffExpiry h hs'
  | storeReadCompletion => exact storeSound_execStoreReadCompletion h hs'
  | chunkCompletion => exact storeSound_execChunkCompletion h hs'
  | loaderReadCompletion => exact storeSound_execLoaderReadCompletion h hs'
  | intervalTimerExpiry => exact storeSound_event_of_eq h (by split <;> rfl) hs'
  | processingEvent => exact storeSound_event_of_eq h (by split <;> simp [ts_processHead]) hs'
  | identify => exact storeSound_plainCommand h hs' fun t => storeSound_reply h ..
  | readConfig => exact storeSound_plainCommand h hs' fun t => storeSound_reply h ..
  | setConfig => exact storeSound_command h hs' fun t params => storeSound_of_eq h (ts_setConfigCommand ..)
  | events => exact storeSound_plainCommand h hs' fun t => storeSound_reply (s := clearLatches s) h ..
  | setEventMask => exact storeSound_command h hs' fun t params => storeSound_of_eq h (ts_setEventMaskCommand ..)
  | faultRead => exact storeSound_plainCommand h hs' fun t => storeSound_reply h ..
  | faultClear => exact storeSound_command h hs' fun t params => storeSound_of_eq h (ts_faultClearCommand ..)
  | changesRead =>
    exact storeSound_plainCommand h hs' fun t => storeSound_reply (s := { s with ust := s.ust.takeChanges }) h ..
  | unitStatusRead => exact storeSound_command h hs' fun t params => storeSound_of_eq h (ts_unitStatusReadCommand ..)
  | countersRead => exact storeSound_command h hs' fun t params => storeSound_of_eq h (ts_countersReadCommand ..)
  | snapshot => exact storeSound_plainCommand h hs' fun t => storeSound_reply (s := { s with pm := s.pm.snapshot }) h ..
  | portControlEnable =>
    exact storeSound_command h hs' <| storeSound_portControl h fun t b => storeSound_of_eq h (ts_enableCommand ..)
  | portControlDisable =>
    exact storeSound_command h hs' <| storeSound_portControl h fun t b => storeSound_of_eq h (ts_disableCommand ..)
  | portControlReport => exact storeSound_command h hs' <| storeSound_portControl h fun t b => storeSound_reply h ..
  | cancel => exact storeSound_command h hs' fun t params => storeSound_of_eq h (ts_cancelCommand ..)
  | queueInvalidation =>
    exact storeSound_command h hs' fun t params => storeSound_of_eq h (ts_queueInvalidationCommand ..)
  | iqStatus => exact storeSound_plainCommand h hs' fun t => storeSound_reply h ..
  | iqRecover => exact storeSound_plainCommand h hs' fun t => storeSound_of_eq h (ts_iqRecoverCommand ..)
  | storeWriteEnable => exact storeSound_plainCommand h hs' <| storeSound_writeEnableCommand h
  | storeWriteDisable =>
    exact storeSound_plainCommand h hs' fun t =>
      storeSound_reply (s := setWel false s) (h.setWel fun hset => by simp at hset) ..
  | storeProgram => exact storeSound_command h hs' <| storeSound_programCommand h
  | storeErase => exact storeSound_command h hs' <| storeSound_eraseCommand h
  | storeSuspend =>
    exact storeSound_plainCommand h hs' fun t =>
      storeSound_reply (s := { s with ts := { s.ts with phase := s.ts.judgeSuspend.2 } }) (storeSound_judgeSuspend h) ..
  | storeResume => exact storeSound_plainCommand h hs' <| storeSound_resumeCommand h
  | storeRead => exact storeSound_command h hs' <| storeSound_storeReadCommand h
  | storeStatus => exact storeSound_plainCommand h hs' fun t => storeSound_reply h ..
  | storeProtect => exact storeSound_command h hs' <| storeSound_protectCommand h
  | activatePolicyStart =>
    exact storeSound_command h hs' <| storeSound_activatePolicy h <| storeSound_startActivation h
  | activatePolicyReport =>
    exact storeSound_command h hs' <| storeSound_activatePolicy h fun t => storeSound_reply h ..
  | cacheRead => exact storeSound_command h hs' fun t params => storeSound_of_eq h (ts_cacheReadCommand ..)
  | resetBridge =>
    exact storeSound_plainCommand h hs' fun t =>
      storeSound_reply (s := { s with mu := { s.mu with halted := some t } }) h ..
  | unknownCommand => exact storeSound_command h hs' fun t params => storeSound_reply h ..

theorem storeSound_step (h : StoreSound s.ts) (hs' : step s = .next s') : StoreSound s'.ts := by
  unfold step at hs'
  split at hs'
  case h_1 =>
    obtain rfl := Host.Outcome.next.inj hs'
    unfold tick
    split
    · exact h.age
    · exact h
  case h_2 c rest _ => exact storeSound_exec (s := s.withPending rest) h hs'

end Sys2Proof.Machine

namespace Sys2Proof
open Sys2Proof.Machine

/-- Settles O57: every command changes the store in the ways that keep it sound. -/
theorem storeIsKept : Obligations.StoreIsKept := by
  intro s s' hsound hstep
  exact storeSound_step hsound hstep

end Sys2Proof
end

section
/-!
The commands on the Table Store that answer at once: STORE-STATUS (O9), the write enable and STORE-PROTECT (O23), STORE-SUSPEND and STORE-RESUME (O25) (R127, R130, R131, R133, R142).
-/

namespace Sys2Proof.Machine

variable {s : State} {t : Tag} {params : List Byte}

/-- A command that takes no parameters, answered (R165). -/
theorem withoutParameters_eq (hunit : (s.tag t).unit = 0) (body : Tag → State → State) (params : List Byte) :
    withoutParameters body t params s = if params = [] then body t s else answered t .badParameter [] s := by
  simp only [withoutParameters, reply_eq_answered hunit, List.isEmpty_iff]

/-! ## STORE-STATUS (R142, R180) -/

theorem exec_storeStatus (h : Ready s t 23 params) :
    exec .storeStatus s = .next
      (if params = [] then answered t .accepted (storeReport s.ts) s else answered t .badParameter [] s) := by
  have ⟨hpowered, _, _, hunit, _⟩ := h
  rw [exec, execStoreStatus, event_of_powered hpowered, whenCommand_of_ready h (by decide), withoutParameters_eq hunit,
    storeStatusCommand, reply_eq_answered hunit]

/-- The flags of STORE-STATUS as one number (R180). -/
theorem statusByte_eq (nested wel holdoff lock reading : Bool) :
    flagAt 0 nested ||| flagAt 1 wel ||| flagAt 2 holdoff ||| flagAt 3 lock ||| flagAt 4 reading =
      byteOf ((if nested = true then 1 else 0) + (if wel = true then 2 else 0) + (if holdoff = true then 4 else 0) +
        (if lock = true then 8 else 0) + (if reading = true then 16 else 0)) := by
  decide +revert

/-! ## Write enabling and protection (R127, R130) -/

theorem exec_storeWriteEnable (h : Ready s t 16 params) :
    exec .storeWriteEnable s = .next
      (if params = [] then
        if s.ts.active.isSome = true then answered t .busy [] s
        else answered t .accepted [] { s with ts := { s.ts with wel := true } }
      else answered t .badParameter [] s) := by
  have ⟨hpowered, _, _, hunit, _⟩ := h
  have hset := reply_eq_answered (t := t) (s := setWel true s) hunit .accepted []
  rw [exec, execStoreWriteEnable, event_of_powered hpowered, whenCommand_of_ready h (by decide),
    withoutParameters_eq hunit, writeEnableCommand, reply_eq_answered hunit, hset]
  rfl

theorem exec_storeWriteDisable (h : Ready s t 17 params) :
    exec .storeWriteDisable s = .next
      (if params = [] then answered t .accepted [] { s with ts := { s.ts with wel := false } }
      else answered t .badParameter [] s) := by
  have ⟨hpowered, _, _, hunit, _⟩ := h
  have hset := reply_eq_answered (t := t) (s := setWel false s) hunit .accepted []
  rw [exec, execStoreWriteDisable, event_of_powered hpowered, whenCommand_of_ready h (by decide),
    withoutParameters_eq hunit, writeDisableCommand, hset]
  rfl

theorem exec_storeProtect (h : Ready s t 24 params) :
    exec .storeProtect s = .next (protectCommand t params s) := by
  have ⟨hpowered, _⟩ := h
  rw [exec, execStoreProtect, event_of_powered hpowered, whenCommand_of_ready h (by decide)]

theorem protectCommand_of_refused (hunit : (s.tag t).unit = 0) (h : decodeProtect params = none) :
    protectCommand t params s = answered t .badParameter [] s := by
  rw [protectCommand, h]
  exact reply_eq_answered hunit ..

theorem protectCommand_of_decoded (hunit : (s.tag t).unit = 0) {range : Option (Fin 8 × Fin 8)} {lock : Bool}
    (h : decodeProtect params = some (range, lock)) :
    protectCommand t params s =
      if s.ts.lock = true then answered t .isProtected [] s
      else if s.ts.wel = false then answered t .notEnabled [] s
      else answered t .accepted [] { s with ts := { s.ts with protection := range, lock := lock, wel := false } } := by
  have hset := reply_eq_answered (t := t)
    (s := { s with ts := { s.ts with protection := range, lock := lock, wel := false } }) hunit .accepted []
  rw [protectCommand, h]
  simp only [reply_eq_answered hunit, hset, Bool.not_eq_true']

theorem flagParameter_eq (b : Byte) : flagParameter b = if b = 0 ∨ b = 1 then some (b == 1) else none := by
  unfold flagParameter
  split
  case isTrue hset => simp [hset]
  case isFalse hset =>
    split
    case isTrue hclear => simp [hclear]
    case isFalse hclear => rw [if_neg (by simp only [not_or]; exact ⟨hclear, hset⟩)]

theorem protectionValid_iff (kind first last : Byte) :
    ProtectionValid kind first last ↔ kind = 0 ∨ (kind = 1 ∧ first.toNat ≤ last.toNat ∧ last.toNat ≤ 7) := by
  have hzero : kind = 0 ↔ kind.toNat = 0 := BitVec.toNat_eq
  have hone : kind = 1 ↔ kind.toNat = 1 := BitVec.toNat_eq
  rw [ProtectionValid, hzero, hone]

/-- The parameters that check 1 of R130 lets pass, and what they ask for. -/
theorem decodeProtect_eq (kind first last lock : Byte) :
    decodeProtect [kind, first, last, lock] =
      if (kind = 0 ∨ (kind = 1 ∧ first.toNat ≤ last.toNat ∧ last.toNat ≤ 7)) ∧ (lock = 0 ∨ lock = 1) then
        some (if kind = 0 then none else some (Fin.ofNat 8 first.toNat, Fin.ofNat 8 last.toNat), lock == 1)
      else none := by
  have hzero : kind = 0 ↔ kind.toNat = 0 := BitVec.toNat_eq
  have hfields : decodeProtect [kind, first, last, lock] =
      (match decodeProtection kind first last, flagParameter lock with
        | some range, some lock => some (range, lock)
        | _, _ => none) := rfl
  have hvalid := protectionValid_iff kind first last
  rw [hfields, flagParameter_eq]
  by_cases hprotection : ProtectionValid kind first last
  · rw [decodeProtection_of_valid hprotection]
    by_cases hlock : lock = 0 ∨ lock = 1
    · simp only [hvalid.1 hprotection, hlock, ← hzero, and_self, if_true]
    · simp only [hlock, and_false, if_false]
  · rw [decodeProtection_of_not_valid hprotection]
    simp only [mt hvalid.2 hprotection, false_and, if_false]

/-! ## STORE-SUSPEND and STORE-RESUME (R131, R133) -/

theorem exec_storeSuspend (h : Ready s t 20 params) :
    exec .storeSuspend s = .next
      (if params = [] then
        answered t s.ts.judgeSuspend.1 [] { s with ts := { s.ts with phase := s.ts.judgeSuspend.2 } }
      else answered t .badParameter [] s) := by
  have ⟨hpowered, _, _, hunit, _⟩ := h
  rw [exec, execStoreSuspend, event_of_powered hpowered, whenCommand_of_ready h (by decide), withoutParameters_eq hunit,
    suspendCommand, reply_eq_answered (s := { s with ts := { s.ts with phase := s.ts.judgeSuspend.2 } }) hunit]

theorem judgeSuspend_eq (t : TableStore) :
    t.judgeSuspend =
      if t.active ≠ none ∧ t.suspended ≠ none then (.wrongState, t.phase)
      else if t.phase = .suspending .auto then (.accepted, .suspending .management)
      else if t.phase = .suspended .auto then (.accepted, .suspended .management)
      else if t.phase = .suspending .management then (.wrongState, t.phase)
      else if t.active = none then (.wrongState, t.phase)
      else if t.holdoff ≠ none then (.busy, t.phase)
      else (.accepted, .suspending .management) := by
  have hnested : t.nested = true ↔ t.active ≠ none ∧ t.suspended ≠ none := by
    simp [TableStore.nested, Option.isSome_iff_ne_none]
  simp only [TableStore.judgeSuspend, hnested, Option.isSome_iff_ne_none, Option.isNone_iff_eq_none]
  match hphase : t.phase with
  | .noSuspension => simp only [reduceCtorEq, if_false]
  | .suspending .auto => simp only [if_true]
  | .suspending .management => simp
  | .suspended .auto => simp
  | .suspended .management => simp

theorem exec_storeResume (h : Ready s t 21 params) :
    exec .storeResume s = .next (if params = [] then resumeCommand t s else answered t .badParameter [] s) := by
  have ⟨hpowered, _, _, hunit, _⟩ := h
  rw [exec, execStoreResume, event_of_powered hpowered, whenCommand_of_ready h (by decide), withoutParameters_eq hunit]

theorem judgeResume_of_other {t : TableStore} (h : t.phase ≠ .suspended .management) : t.judgeResume = .wrongState := by
  unfold TableStore.judgeResume
  split
  case h_1 hphase => exact absurd hphase h
  case h_2 => rfl

theorem judgeResume_of_management {t : TableStore} (h : t.phase = .suspended .management) :
    t.judgeResume = if t.active ≠ none then .busy else .accepted := by
  simp only [TableStore.judgeResume, h, Option.isSome_iff_ne_none]

theorem resumeCommand_of_refused (hunit : (s.tag t).unit = 0) {result : ResultCode} (h : s.ts.judgeResume = result)
    (hresult : result ≠ .accepted) : resumeCommand t s = answered t result [] s := by
  unfold resumeCommand
  split
  case h_1 haccepted => exact absurd (h.symm.trans haccepted) hresult
  case h_2 => rw [h, reply_eq_answered hunit]

/-- A resume of a suspended operation (R133, R140, R173). -/
theorem resume_of_suspended {o : Operation} (h : s.ts.suspended = some o) :
    resume s =
      rejudgeFills
        { s with
          ts :=
            { s.ts with
              active := some o, suspended := none, phase := .noSuspension, wel := false, holdoff := some 100 } } := by
  rw [resume, h]
  rfl

/-- An answer to a management request of the same record is the same after the waiting fills are judged again. -/
theorem reply_rejudgeFills (hunit : (s.tag t).unit = 0) (result : ResultCode) (data : List Byte) :
    reply t result data (rejudgeFills s) = answered t result data (rejudgeFills s) :=
  reply_eq_answered (by rwa [State.tag, (rejudgeFills_frame s).2.2.2.2.1]) ..

theorem resumeCommand_of_accepted (hunit : (s.tag t).unit = 0) (h : s.ts.judgeResume = .accepted) {o : Operation}
    (ho : s.ts.suspended = some o) : resumeCommand t s = settle (answered t .accepted [] (resume s)) := by
  rw [resumeCommand, h, resume_of_suspended ho]
  refine congrArg settle (reply_rejudgeFills ?_ ..)
  exact hunit

end Sys2Proof.Machine

namespace Sys2Proof
open Sys2Proof.Machine

/-- Settles O9: the operations, the phase and the protection by their cases, and the flags as a number. -/
theorem storeStatusAnswers : Obligations.StoreStatusAnswers := by
  intro s t params hready operation
  have hoperation : ∀ o, operation o = operationBytes o := fun o => by
    match o with
    | none => rfl
    | some ⟨.program _ _, _⟩ => rfl
    | some ⟨.erase _, _⟩ => rfl
  have hnested : s.ts.active.isSome = true ∧ s.ts.suspended.isSome = true ↔ s.ts.nested = true := by
    simp [TableStore.nested]
  rw [exec_storeStatus hready, hoperation, hoperation]
  simp only [storeReport, statusByte_eq, hnested, List.append_assoc]
  cases s.ts.protection <;> rcases s.ts.phase with _ | (_ | _) | (_ | _) <;> rfl

/-- Settles O23: by the parameters, and STORE-PROTECT by what they decode to. -/
theorem writeEnableAndProtection : Obligations.WriteEnableAndProtection := by
  intro s t params
  refine ⟨fun hready => ?_, fun hready => ?_, fun hready hlength => ?_, fun kind first last lock hparams hready => ?_⟩
  · rw [exec_storeWriteEnable hready]
    simp only [Option.isSome_iff_ne_none, ne_eq, ite_not]
  · rw [exec_storeWriteDisable hready]
    simp only [ne_eq, ite_not]
  · have ⟨_, _, _, hunit, _⟩ := hready
    rw [exec_storeProtect hready, protectCommand_of_refused hunit (by simp [decodeProtect, hlength])]
  · have ⟨_, _, _, hunit, _⟩ := hready
    subst hparams
    have hdecode := decodeProtect_eq kind first last lock
    rw [exec_storeProtect hready]
    split
    case isTrue hallowed => rw [protectCommand_of_decoded hunit (hdecode.trans (if_pos hallowed))]
    case isFalse hrefused => rw [protectCommand_of_refused hunit (hdecode.trans (if_neg hrefused))]

/-- Settles O25: the suspension by the first condition that decides, and the resume by its judgement. -/
theorem suspendAndResume : Obligations.SuspendAndResume := by
  refine ⟨?_, fun s t params hready => ?_⟩
  · intro s t params hready accepted
    rw [exec_storeSuspend hready, judgeSuspend_eq]
    simp only [ne_eq, ite_not, accepted]
    split_ifs <;> rfl
  · have ⟨_, _, _, hunit, _⟩ := hready
    rw [exec_storeResume hready]
    refine ⟨fun hparams => ?_, fun hparams hphase => ?_, fun hparams hphase hactive => ?_,
      fun o hparams hphase hactive ho => ?_⟩
    · rw [if_neg hparams]
    · rw [if_pos hparams, resumeCommand_of_refused hunit (judgeResume_of_other hphase) (by decide)]
    · rw [if_pos hparams, resumeCommand_of_refused hunit
        ((judgeResume_of_management hphase).trans (if_pos hactive)) (by decide)]
    · rw [if_pos hparams, resumeCommand_of_accepted hunit
        ((judgeResume_of_management hphase).trans (if_neg (not_not.2 hactive))) ho, resume_of_suspended ho]

end Sys2Proof
end

section
/-!
STORE-PROGRAM and STORE-ERASE (O24): the checks of their parameters, and the judgement that both share (R128, R129).
-/

namespace Sys2Proof.Machine

variable {s : State} {t : Tag} {params : List Byte}

/-! ## The judgement of an operation (checks 2 to 7 of R128) -/

theorem activationRefuses_iff (s : State) (sector : Nat) :
    activationRefuses s sector = true ↔ (sector = 4 ∨ sector = 5) ∧ s.pu.activation ≠ .idle := by
  simp only [activationRefuses, Bool.and_eq_true, Bool.or_eq_true, bne_iff_ne, beq_iff_eq, and_comm]

theorem operationCommand_eq (hunit : (s.tag t).unit = 0) (o : StoreOp) (refuses : Bool) :
    operationCommand t o refuses s =
      if s.ts.active ≠ none then answered t .busy [] s
      else if refuses = true then answered t .wrongState [] s
      else if (o.sector = 4 ∨ o.sector = 5) ∧ s.pu.activation ≠ .idle then answered t .busy [] s
      else if s.ts.wel = false then answered t .notEnabled [] s
      else if s.ts.isProtected o.sector = true then
        answered t .isProtected [] { s with ts := { s.ts with wel := false } }
      else
        settle
          (answered t .accepted []
            (rejudgeFills { s with ts := { s.ts with wel := false, active := some { op := o, ran := 0 } } })) := by
  simp only [operationCommand, judgeOperation, Option.isSome_iff_ne_none, activationRefuses_iff, Bool.not_eq_true']
  split_ifs
  · exact reply_eq_answered hunit ..
  · exact reply_eq_answered hunit ..
  · exact reply_eq_answered hunit ..
  · exact reply_eq_answered hunit ..
  · exact reply_eq_answered (s := setWel false s) hunit ..
  · refine congrArg settle (reply_rejudgeFills ?_ ..)
    exact hunit

/-- Check 3 of R128, by the suspended operation. -/
theorem suspendedRefusesProgram_eq (t : TableStore) (sector : Nat) :
    suspendedRefusesProgram t sector =
      match t.suspended with
      | some ⟨.program _ _, _⟩ => true
      | some ⟨.erase k, _⟩ => k == sector
      | none => false := by
  unfold suspendedRefusesProgram
  match t.suspended with
  | none => rfl
  | some ⟨.program _ _, _⟩ => rfl
  | some ⟨.erase _, _⟩ => rfl

/-- A sector lies in the protection range (R130). -/
theorem isProtected_eq (t : TableStore) (sector : Nat) :
    t.isProtected sector =
      match t.protection with
      | some (first, last) => decide (first.val ≤ sector ∧ sector ≤ last.val)
      | none => false := by
  unfold TableStore.isProtected
  match t.protection with
  | none => rfl
  | some (first, last) => exact (Bool.decide_and ..).symm

/-! ## STORE-PROGRAM (R128) -/

theorem exec_storeProgram (h : Ready s t 18 params) :
    exec .storeProgram s = .next (programCommand t params s) := by
  have ⟨hpowered, _⟩ := h
  rw [exec, execStoreProgram, event_of_powered hpowered, whenCommand_of_ready h (by decide)]

theorem programRefused_of_short (h : params.length < 3) : programRefused params = true := by
  simp [programRefused, h]

theorem programRefused_iff (hi lo : Byte) {bytes : List Byte} (h : bytes ≠ []) :
    programRefused (hi :: lo :: bytes) = true ↔
      32 < bytes.length ∨ 8191 < 256 * hi.toNat + lo.toNat ∨ 32 < (256 * hi.toNat + lo.toNat) % 32 + bytes.length := by
  have hlength : 1 ≤ bytes.length := List.length_pos_iff.2 h
  have haddress : addressOf (byteAt (hi :: lo :: bytes) 0) (byteAt (hi :: lo :: bytes) 1) =
      256 * hi.toNat + lo.toNat := rfl
  simp only [programRefused, haddress, List.length_cons, Bool.or_eq_true, decide_eq_true_eq, Config.storeBytes,
    Config.pageBytes]
  omega

theorem programCommand_of_refused (hunit : (s.tag t).unit = 0) (h : programRefused params = true) :
    programCommand t params s = answered t .badParameter [] s := by
  rw [programCommand, if_pos h, reply_eq_answered hunit]

theorem programCommand_of_passed {hi lo : Byte} {bytes : List Byte} (h : ¬ programRefused (hi :: lo :: bytes) = true) :
    programCommand t (hi :: lo :: bytes) s =
      operationCommand t (.program (256 * hi.toNat + lo.toNat) bytes)
        (suspendedRefusesProgram s.ts ((256 * hi.toNat + lo.toNat) / 1024)) s := by
  rw [programCommand, if_neg h]
  rfl

/-! ## STORE-ERASE (R129) -/

theorem exec_storeErase (h : Ready s t 19 params) : exec .storeErase s = .next (eraseCommand t params s) := by
  have ⟨hpowered, _⟩ := h
  rw [exec, execStoreErase, event_of_powered hpowered, whenCommand_of_ready h (by decide)]

theorem eraseCommand_of_refused (hunit : (s.tag t).unit = 0) (h : ∀ k : Fin 8, params ≠ [byteOf k.val]) :
    eraseCommand t params s = answered t .badParameter [] s := by
  have hrefused : params.length ≠ 1 ∨ 7 < (byteAt params 0).toNat := by
    by_contra hpasses
    simp only [not_or, not_not, not_lt] at hpasses
    obtain ⟨hlength, hsector⟩ := hpasses
    obtain ⟨b, rfl⟩ := List.length_eq_one_iff.1 hlength
    have hb : b.toNat ≤ 7 := hsector
    exact h ⟨b.toNat, by omega⟩ (by simp [byteOf])
  rw [eraseCommand, if_pos (by simpa using hrefused), reply_eq_answered hunit]

theorem eraseCommand_of_sector (k : Fin 8) :
    eraseCommand t [byteOf k.val] s = operationCommand t (.erase k.val) s.ts.suspended.isSome s := by
  have hsector : (byteAt [byteOf k.val] 0).toNat = k.val := by
    simp only [byteAt, byteOf, List.getD_cons_zero, BitVec.toNat_ofNat]
    omega
  rw [eraseCommand, hsector, if_neg (by simp; omega)]

end Sys2Proof.Machine

namespace Sys2Proof
open Sys2Proof.Machine

/-- Settles O24: the check of the parameters, then the judgement that both commands share. -/
theorem programsAndErasesAreJudged : Obligations.ProgramsAndErasesAreJudged := by
  refine ⟨fun s t params hready => ?_, fun s t params hready => ?_⟩
  · have ⟨_, _, _, hunit, _⟩ := hready
    rw [exec_storeProgram hready]
    refine ⟨fun hshort => ?_, ?_⟩
    · rw [programCommand_of_refused hunit (programRefused_of_short hshort)]
    · intro hi lo bytes hparams hbytes address sector
      subst hparams
      have hrefused := programRefused_iff hi lo hbytes
      split
      case isTrue hbad => rw [programCommand_of_refused hunit (hrefused.2 hbad)]
      case isFalse hgood =>
        rw [programCommand_of_passed (mt hrefused.1 hgood), operationCommand_eq hunit, suspendedRefusesProgram_eq,
          isProtected_eq]
        rfl
  · have ⟨_, _, _, hunit, _⟩ := hready
    rw [exec_storeErase hready]
    refine ⟨fun hnone => ?_, fun k hparams => ?_⟩
    · rw [eraseCommand_of_refused hunit hnone]
    · subst hparams
      have hpolicy : k = 4 ∨ k = 5 ↔ k.val = 4 ∨ k.val = 5 := by simp only [Fin.ext_iff]; rfl
      rw [eraseCommand_of_sector, operationCommand_eq hunit, isProtected_eq]
      simp only [Option.isSome_iff_ne_none, hpolicy]
      rfl

end Sys2Proof
end

section
/-!
STORE-READ (O26): its checks, and the reply at the completion of the read (R141, R165, R167).
-/

namespace Sys2Proof.Machine

variable {s : State} {t : Tag} {params : List Byte}

/-! ## The judgement (R141) -/

theorem exec_storeRead (h : Ready s t 22 params) : exec .storeRead s = .next (storeReadCommand t params s) := by
  have ⟨hpowered, _⟩ := h
  rw [exec, execStoreRead, event_of_powered hpowered, whenCommand_of_ready h (by decide)]

theorem storeReadRefused_of_length (h : params.length ≠ 3) : storeReadRefused params = true := by
  simp [storeReadRefused, h]

theorem storeReadRefused_iff (hi lo n : Byte) :
    storeReadRefused [hi, lo, n] = true ↔
      n.toNat = 0 ∨ 47 < n.toNat ∨ 8191 < 256 * hi.toNat + lo.toNat + n.toNat - 1 := by
  have haddress : addressOf (byteAt [hi, lo, n] 0) (byteAt [hi, lo, n] 1) = 256 * hi.toNat + lo.toNat := rfl
  have hcount : byteAt [hi, lo, n] 2 = n := rfl
  simp only [storeReadRefused, haddress, hcount, List.length_cons, List.length_nil, Bool.or_eq_true, bne_iff_ne,
    beq_iff_eq, decide_eq_true_eq, Config.storeBytes]
  omega

/-- A run of bytes meets a sector when the sector is among those from its first byte's to its last byte's. -/
theorem exists_in_sector_iff {a n k : Nat} (hn : n ≠ 0) :
    (∃ i < n, (a + i) / 1024 = k) ↔ a / 1024 ≤ k ∧ k ≤ (a + n - 1) / 1024 := by
  constructor
  · rintro ⟨i, hi, rfl⟩
    omega
  · rintro ⟨hfirst, hlast⟩
    by_cases hbegins : 1024 * k ≤ a
    · exact ⟨0, by omega, by omega⟩
    · exact ⟨1024 * k - a, by omega, by omega⟩

/-- Check 3 of R141, byte by byte. -/
theorem rangeSuspended_eq (t : TableStore) (a : Nat) {n : Nat} (hn : n ≠ 0) :
    t.rangeSuspended a n =
      match t.suspended with
      | some o => (List.range n).any fun i => (a + i) / 1024 == o.op.sector
      | none => false := by
  unfold TableStore.rangeSuspended
  cases t.suspended with
  | none => rfl
  | some o =>
    rw [Bool.eq_iff_iff]
    simp only [Option.any_some, Bool.and_eq_true, decide_eq_true_eq, List.any_eq_true, List.mem_range, beq_iff_eq]
    exact (exists_in_sector_iff hn).symm

theorem storeReadCommand_of_refused (hunit : (s.tag t).unit = 0) (h : storeReadRefused params = true) :
    storeReadCommand t params s = answered t .badParameter [] s := by
  simp only [storeReadCommand, h, if_true, reply_eq_answered hunit]

theorem storeReadCommand_of_passed (hunit : (s.tag t).unit = 0) {hi lo n : Byte}
    (h : ¬ storeReadRefused [hi, lo, n] = true) :
    storeReadCommand t [hi, lo, n] s =
      if s.ts.active ≠ none then answered t .busy [] s
      else if s.ts.rangeSuspended (256 * hi.toNat + lo.toNat) n.toNat = true then answered t .busy [] s
      else
        settle
          { s with
            ts := { s.ts with storeRead := some { address := 256 * hi.toNat + lo.toNat, count := n.toNat } }
            mu := { s.mu with queue := .executing (some t) :: s.mu.queue.tail } } := by
  simp only [storeReadCommand, h, Option.isSome_iff_ne_none, reply_eq_answered hunit]
  rfl

/-! ## The completion (R141, R144, R167) -/

theorem exec_storeReadCompletion_of_read (hpowered : s.powered = true) {bytes : List Byte}
    (h : s.ts.reading = some { reader := .storeRead, bytes := bytes }) :
    exec .storeReadCompletion s = .next (settle (finishStoreRead bytes (freePort s))) := by
  rw [exec, execStoreReadCompletion, event_of_powered hpowered, h]

theorem exec_storeReadCompletion_of_dropped (hpowered : s.powered = true) {bytes : List Byte}
    (h : s.ts.reading = some { reader := .droppedStoreRead, bytes := bytes }) :
    exec .storeReadCompletion s = .next (settle (freePort s)) := by
  rw [exec, execStoreReadCompletion, event_of_powered hpowered, h]

theorem finishStoreRead_of_tag (hhead : s.mu.queue.head? = some (.executing (some t))) (hunit : (s.tag t).unit = 0)
    (bytes : List Byte) : finishStoreRead bytes s = answered t .accepted bytes s := by
  obtain ⟨rest, hqueue⟩ := List.head?_eq_some_iff.1 hhead
  rw [finishStoreRead, hqueue]
  exact reply_eq_answered hunit ..

theorem finishStoreRead_of_tagless (hhead : s.mu.queue.head? = some (.executing none)) (bytes : List Byte) :
    finishStoreRead bytes s = { s with mu := { s.mu with queue := s.mu.queue.tail } } := by
  obtain ⟨rest, hqueue⟩ := List.head?_eq_some_iff.1 hhead
  rw [finishStoreRead, hqueue]
  simp only [dropManagementHead, hqueue]

end Sys2Proof.Machine

namespace Sys2Proof
open Sys2Proof.Machine

/-- Settles O26: the judgement check by check, then the completion by what stands at the head of the queue. -/
theorem storeReadServed : Obligations.StoreReadServed := by
  refine ⟨fun s t params hready => ?_, ?_⟩
  · have ⟨_, _, _, hunit, _⟩ := hready
    rw [exec_storeRead hready]
    refine ⟨fun hlength => ?_, ?_⟩
    · rw [storeReadCommand_of_refused hunit (storeReadRefused_of_length hlength)]
    · intro hi lo n hparams address
      subst hparams
      have hrefused := storeReadRefused_iff hi lo n
      split
      case isTrue hbad => rw [storeReadCommand_of_refused hunit (hrefused.2 hbad)]
      case isFalse hgood =>
        have hcount : n.toNat ≠ 0 := fun hzero => hgood (.inl hzero)
        have hjudged := storeReadCommand_of_passed hunit (mt hrefused.1 hgood)
        rw [rangeSuspended_eq _ _ hcount] at hjudged
        exact congrArg Host.Outcome.next hjudged
  · intro s bytes hpowered freed
    refine ⟨fun t hreading hhead hunit => ?_, fun hreading hhead => ?_, exec_storeReadCompletion_of_dropped hpowered⟩
    · rw [exec_storeReadCompletion_of_read hpowered hreading, finishStoreRead_of_tag (s := freePort s) hhead hunit]
      rfl
    · rw [exec_storeReadCompletion_of_read hpowered hreading, finishStoreRead_of_tagless (s := freePort s) hhead]
      rfl

end Sys2Proof
end

section
/-!
The bytes that an operation leaves: at its completion (O39), and at a power loss during it (O29) (R124, R126, R132, R134, R143, R144, R173).
-/

namespace Sys2Proof.Machine

variable {s : State}

/-! ## The target of an operation (R124, R125) -/

theorem targetByte_program (base a : Nat) (bytes : List Byte) (old : Byte) :
    (StoreOp.program base bytes).targetByte a old =
      if base ≤ a ∧ a < base + bytes.length then some (old &&& bytes.getD (a - base) 0) else none := rfl

theorem targetByte_erase (k a : Nat) (old : Byte) :
    (StoreOp.erase k).targetByte a old = if a / 1024 = k then some Config.erasedValue else none := rfl

/-- A program in the store ends in the store, within the sector where it begins (R123, R128). -/
theorem bounds_of_inStore {base : Nat} {bytes : List Byte} (h : (StoreOp.program base bytes).inStore = true) :
    base + bytes.length ≤ 8192 ∧ ∀ a, base ≤ a → a < base + bytes.length → a / 1024 = base / 1024 := by
  simp only [StoreOp.inStore, Bool.and_eq_true, decide_eq_true_eq] at h
  obtain ⟨⟨hbase, _⟩, hpage⟩ := h
  rw [Config.storeBytes] at hbase
  rw [Config.pageBytes] at hpage
  exact ⟨by omega, fun a _ _ => by omega⟩

/-- A byte of an operation's target lies in the operation's sector. -/
theorem sector_of_targetByte {o : StoreOp} (h : o.inStore = true) {a : Nat} {old new : Byte}
    (hnew : o.targetByte a old = some new) : a / 1024 = o.sector := by
  cases o with
  | program base bytes =>
    rw [targetByte_program] at hnew
    split at hnew
    case isTrue hin => exact (bounds_of_inStore h).2 a hin.1 hin.2
    case isFalse => simp at hnew
  | erase k =>
    rw [targetByte_erase] at hnew
    split at hnew
    case isTrue hin => exact hin
    case isFalse => simp at hnew

/-- A byte of the store after an operation: its target value where the operation has one and `chosen` says so. -/
theorem readByte_applyOp (chosen : Nat → Bool) (m : List Host.Cell) {o : StoreOp} (h : o.inStore = true) (a : Nat) :
    readByte (applyOp chosen m o) a =
      if chosen a = true then (o.targetByte a (readByte m a)).getD (readByte m a) else readByte m a := by
  cases o with
  | program base bytes =>
    rw [applyOp, readByte_programBytes chosen m base a bytes (bounds_of_inStore h).1, targetByte_program]
    split_ifs <;> simp_all
  | erase k =>
    rw [applyOp, readByte_eraseBytes, targetByte_erase, Config.sectorBytes]
    split_ifs <;> simp_all

/-! ## The events of the store (R126, R132, R134) -/

theorem exec_operationCompletion (hpowered : s.powered = true) {o : Operation} (h : s.ts.active = some o) :
    exec .operationCompletion s = .next (settle (completeOperation o s)) := by
  rw [exec, execOperationCompletion, event_of_powered hpowered, h]

theorem exec_suspendEffective (hpowered : s.powered = true) {owner : Owner} {o : Operation}
    (hphase : s.ts.phase = .suspending owner) (ho : s.ts.active = some o) :
    exec .suspendEffective s = .next (settle (suspendEffective owner o s)) := by
  rw [exec, execSuspendEffective, event_of_powered hpowered, hphase, ho]

theorem exec_holdoffExpiry (hpowered : s.powered = true) (h : s.ts.holdoff = some 0) :
    exec .holdoffExpiry s = .next (settle (rejudgeFills { s with ts := { s.ts with holdoff := none } })) := by
  rw [exec, execHoldoffExpiry, event_of_powered hpowered, h]
  rfl

/-- The completion ends a suspension that has not taken effect (R126). -/
theorem phase_of_completion (p : SuspendPhase) :
    (if p.isSuspending = true then SuspendPhase.noSuspension else p) =
      match p with
      | .suspending _ => .noSuspension
      | p => p := by
  cases p <;> rfl

/-! ## A power loss (R143) -/

/-- A byte of a lost operation's target is left old or at its target value; every other byte is left as it was. -/
theorem readByte_lostOperation (n : Nat) (m : List Host.Cell) {o : Option Operation}
    (h : ∀ x, o = some x → x.op.inStore = true) (a : Nat) :
    readByte (lostOperation n o m) a = readByte m a ∨
      ∃ x, o = some x ∧ x.op.targetByte a (readByte m a) = some (readByte (lostOperation n o m) a) := by
  cases o with
  | none => exact .inl rfl
  | some x =>
    rw [show lostOperation n (some x) m = applyOp (Config.powerLossTakesTarget n) m x.op from rfl,
      readByte_applyOp _ m (h x rfl)]
    split
    case isTrue =>
      cases htarget : x.op.targetByte a (readByte m a) with
      | none => exact .inl rfl
      | some new => exact .inr ⟨x, rfl, htarget⟩
    case isFalse => exact .inl rfl

/-- Two operations of a sound store have no byte of a target in common (R125). -/
theorem StoreSound.targets_apart {t : TableStore} (h : StoreSound t) {x y : Operation} (hx : t.active = some x)
    (hy : t.suspended = some y) {a : Nat} {u v new : Byte} (htarget : x.op.targetByte a u = some new) :
    y.op.targetByte a v = none := by
  have hxsector := sector_of_targetByte (h.inStore_of_active hx) htarget
  have hapart : x.op.sector ≠ y.op.sector := by
    obtain ⟨-, -, -, -, -, -, hnesting⟩ := h
    simp only [TableStore.nestingAgrees, hx, hy, Bool.and_eq_true, bne_iff_ne] at hnesting
    exact hnesting.2
  cases hytarget : y.op.targetByte a v with
  | none => rfl
  | some w => exact absurd (hxsector.symm.trans (sector_of_targetByte (h.inStore_of_suspended hy) hytarget)) hapart

/-- A byte of the store after a power loss (R143). -/
theorem readByte_contentsAfterLoss {t : TableStore} (h : StoreSound t) (n a : Nat) :
    readByte (contentsAfterLoss n t) a = readByte t.contents a ∨
      ∃ o : Operation, (t.active = some o ∨ t.suspended = some o) ∧
        o.op.targetByte a (readByte t.contents a) = some (readByte (contentsAfterLoss n t) a) := by
  have hsuspended := readByte_lostOperation n t.contents (fun _ => h.inStore_of_suspended) a
  have hactive := readByte_lostOperation n (lostOperation n t.suspended t.contents) (fun _ => h.inStore_of_active) a
  rw [← contentsAfterLoss] at hactive
  rcases hactive with hsame | ⟨x, hx, hxtarget⟩
  · rw [hsame]
    rcases hsuspended with hold | ⟨y, hy, hytarget⟩
    · exact .inl hold
    · exact .inr ⟨y, .inr hy, hytarget⟩
  · have hold : readByte (lostOperation n t.suspended t.contents) a = readByte t.contents a := by
      rcases hsuspended with hold | ⟨y, hy, hytarget⟩
      · exact hold
      · simp [h.targets_apart hx hy hxtarget] at hytarget
    exact .inr ⟨x, .inl hx, hold ▸ hxtarget⟩

/-! ## Power (R143, R173) -/

/-- Without power an event changes nothing (log 5). -/
theorem event_of_not_powered (h : s.powered = false) (body : State) : event s body = .next s := by
  simp [event, h]

theorem exec_powerLoss_of_powered (h : s.powered = true) :
    exec .powerLoss s = .next (powerOffState s.pending (s.powerLosses + 1) (contentsAfterLoss s.powerLosses s.ts)) := by
  rw [exec, execPowerLoss, if_pos h]

theorem exec_powerLoss_of_not_powered (h : s.powered = false) : exec .powerLoss s = .next s := by
  rw [exec, execPowerLoss, h, if_neg (by decide)]

theorem exec_powerOn_of_powered (h : s.powered = true) :
    exec .powerOn s = .next (powerOnState s.pending (s.powerLosses + 1) (contentsAfterLoss s.powerLosses s.ts)) := by
  rw [exec, execPowerOn, if_pos h]

theorem exec_powerOn_of_not_powered (h : s.powered = false) :
    exec .powerOn s = .next (powerOnState s.pending s.powerLosses s.ts.contents) := by
  rw [exec, execPowerOn, h, if_neg (by decide)]

/-- Every command but the two of the power is an event. -/
theorem exec_of_not_powered (h : s.powered = false) {c : Instr} (hc : c ≠ .powerOn) : exec c s = .next s := by
  cases c with
  | powerOn => exact absurd rfl hc
  | powerLoss => exact exec_powerLoss_of_not_powered h
  | _ => exact event_of_not_powered h _

end Sys2Proof.Machine

namespace Sys2Proof
open Sys2Proof.Machine

/-- Settles O39: each event by its condition, and the contents byte by byte. -/
theorem storeOperationsMove : Obligations.StoreOperationsMove := by
  intro s hpowered hsound
  refine ⟨fun o ho => ?_, fun owner o hphase ho => exec_suspendEffective hpowered hphase ho,
    exec_holdoffExpiry hpowered⟩
  refine ⟨applyOp (fun _ => true) s.ts.contents o.op, Memory.wf_applyOp _ _ hsound.1, fun a => ?_, ?_⟩
  · rw [readByte_applyOp _ _ (hsound.inStore_of_active ho), if_pos rfl]
  · rw [exec_operationCompletion hpowered ho, completeOperation, phase_of_completion]
    rfl

/-- Settles O29: the contents that a loss leaves, byte by byte, and the other commands as events without power. -/
theorem powerComesAndGoes : Obligations.PowerComesAndGoes := by
  refine ⟨?_, fun c s hc hpowered => exec_of_not_powered hpowered hc⟩
  intro off on
  refine ⟨fun s hpowered => ⟨exec_powerLoss_of_not_powered hpowered, exec_powerOn_of_not_powered hpowered⟩, ?_⟩
  intro s hpowered hsound
  exact ⟨contentsAfterLoss s.powerLosses s.ts, wf_contentsAfterLoss _ hsound.1,
    readByte_contentsAfterLoss hsound s.powerLosses, exec_powerLoss_of_powered hpowered,
    exec_powerOn_of_powered hpowered⟩

end Sys2Proof
end

section
/-!
The read port (O38): the judgement of a fill row by row, the choice of the arbiter, and what follows at the store at the end of an event (R59, R136 to R140, R173).
-/

namespace Sys2Proof.Machine

variable {s : State}

/-! ## The judgement of a fill (R137, R139) -/

theorem sectorBusy_iff (t : TableStore) (sector : Nat) :
    t.sectorBusy sector = true ↔
      t.active.map (·.op.sector) = some sector ∨ t.suspended.map (·.op.sector) = some sector := by
  simp [TableStore.sectorBusy, Option.any_eq_true]

theorem isSuspending_iff (p : SuspendPhase) :
    p.isSuspending = true ↔ p = .suspending .management ∨ p = .suspending .auto := by
  rcases p with _ | (_ | _) | _ <;> simp [SuspendPhase.isSuspending]

/-- A fill counted as refused; the refusal has not reached the Route Cache yet (R34, R137). -/
def refuseFill (i : SlotNo) (s : State) : State :=
  count (.bridge .storeBusyRefusals) { s with ts := { s.ts with refusedFills := s.ts.refusedFills ++ [i] } }

theorem judgeFill_eq (i : SlotNo) (unit : Byte) (s : State) :
    judgeFill i unit s =
      if s.ts.active.map (·.op.sector) = some (unit.toNat / 64) ∨
          s.ts.suspended.map (·.op.sector) = some (unit.toNat / 64) then refuseFill i s
      else if s.ts.active = none then { s with ts := s.ts.addFill i unit .eligible }
      else if s.ts.phase = .suspending .management ∨ s.ts.phase = .suspending .auto then
        { s with ts := s.ts.addFill i unit .forSuspension }
      else if s.ts.suspended ≠ none then refuseFill i s
      else if s.config.autoSuspend = false then refuseFill i s
      else if s.ts.holdoff ≠ none then { s with ts := s.ts.addFill i unit .forHoldoff }
      else { s with ts := { s.ts.addFill i unit .forSuspension with phase := .suspending .auto } } := by
  simp only [judgeFill, TableStore.judge, routeSector, sectorBusy_iff, isSuspending_iff, Option.isNone_iff_eq_none,
    Option.isSome_iff_ne_none, Bool.not_eq_true']
  split_ifs <;> rfl

/-! ## The arbiter (R59, R136, R173) -/

theorem arbiter_of_reading (h : s.ts.reading ≠ none) : arbiter s = s := by
  rw [arbiter, if_pos (Option.isSome_iff_ne_none.2 h)]

/-- Where each slot has one fill at most, the fills of the other slots are all the others. -/
theorem filter_slot_ne {before after : List WaitingFill} {f : WaitingFill}
    (h : ((before ++ f :: after).map (·.slot)).Nodup) :
    (before ++ f :: after).filter (fun g => g.slot ≠ f.slot) = before ++ after := by
  rw [List.map_append, List.map_cons, List.nodup_middle, List.nodup_cons, ← List.map_append] at h
  have hkept : ∀ g ∈ before ++ after, g.slot ≠ f.slot := fun g hg hslot =>
    h.1 (hslot ▸ List.mem_map_of_mem hg)
  rw [List.filter_append, List.filter_cons_of_neg (by simp), ← List.filter_append]
  exact List.filter_eq_self.2 fun g hg => by simpa using hkept g hg

theorem find_eligible_eq_none {fills : List WaitingFill} (h : ∀ f ∈ fills, f.wait ≠ .eligible) :
    fills.find? (fun f => f.wait = .eligible) = none := List.find?_eq_none.2 (by simpa using h)

section
variable (hfree : s.ts.reading = none)
include hfree

/-- The eligible fill issued first is served. -/
theorem arbiter_of_fill {before after : List WaitingFill} {f : WaitingFill} (hfills : s.ts.fills = before ++ f :: after)
    (hf : f.wait = .eligible) (hbefore : ∀ g ∈ before, g.wait ≠ .eligible) (hslots : (s.ts.fills.map (·.slot)).Nodup) :
    arbiter s =
      beginRead (.fill f.slot) (routeAddress f.unit) 16 { s with ts := { s.ts with fills := before ++ after } } := by
  have hfind : s.ts.fills.find? (fun f => f.wait = .eligible) = some f := by
    rw [hfills, List.find?_append, List.find?_eq_none.2 (by simpa using hbefore), Option.none_or,
      List.find?_cons_of_pos (by simpa using hf)]
  have hothers : s.ts.fills.filter (fun g => g.slot ≠ f.slot) = before ++ after := by
    rw [hfills] at hslots ⊢
    exact filter_slot_ne hslots
  simp only [arbiter, hfree, hfind, hothers, Option.isSome_none, Bool.false_eq_true, if_false]

variable (hfills : ∀ f ∈ s.ts.fills, f.wait ≠ .eligible)
include hfills

theorem arbiter_of_storeRead {q : StoreReadRequest} (hq : s.ts.storeRead = some q) :
    arbiter s = beginRead .storeRead q.address q.count { s with ts := { s.ts with storeRead := none } } := by
  simp only [arbiter, hfree, find_eligible_eq_none hfills, hq, Option.isSome_none, Bool.false_eq_true, if_false]

variable (hstoreRead : s.ts.storeRead = none)
include hstoreRead

theorem arbiter_of_chunk {k : Fin 32} {bad : Nat} (hrunning : s.pu.activation = .running k bad)
    (hchunk : chunkEligible s = true) : arbiter s = beginRead .chunk (chunkAddress k.val) 64 s := by
  simp only [arbiter, hfree, find_eligible_eq_none hfills, hstoreRead, hchunk, hrunning, Option.isSome_none,
    Bool.false_eq_true, if_false, if_true]

theorem arbiter_of_loader {k : Fin 33} {record : Option LoadedRecord} {bad : Nat} (hchunk : chunkEligible s = false)
    (hreading : s.sul.state = .reading k record bad) :
    arbiter s =
      if s.ts.active = none then beginRead .loader (loaderRead k.val).1 (loaderRead k.val).2 s else s := by
  simp only [arbiter, hfree, find_eligible_eq_none hfills, hstoreRead, hchunk, hreading, Option.isSome_none,
    Bool.false_eq_true, if_false, Option.isNone_iff_eq_none]

theorem arbiter_of_no_loader (hchunk : chunkEligible s = false)
    (hreading : ∀ k record bad, s.sul.state ≠ .reading k record bad) : arbiter s = s := by
  cases hstate : s.sul.state with
  | reading k record bad => exact absurd hstate (hreading k record bad)
  | _ =>
    simp only [arbiter, hfree, find_eligible_eq_none hfills, hstoreRead, hchunk, hstate, Option.isSome_none,
      Bool.false_eq_true, if_false]

end

/-- When a chunk read may begin (R59). -/
theorem chunkEligible_iff (s : State) :
    chunkEligible s = true ↔
      s.pu.activation ≠ .idle ∧ s.ts.active = none ∧
        ¬ (s.ts.phase = .suspended .auto ∨ s.ts.phase = .suspending .auto) ∧ s.ts.fills = [] ∧ s.ts.storeRead = none := by
  simp only [chunkEligible, Bool.and_eq_true, bne_iff_ne, ne_eq, owner_eq_auto_iff, Option.isNone_iff_eq_none,
    List.isEmpty_iff, and_assoc]

/-- The byte that a loader read begins at, and its length (R173). -/
theorem loaderRead_eq (k : Nat) : loaderRead k = (if k = 0 then 6144 else 4096 + 64 * (k - 1), 64) := by
  unfold loaderRead
  split <;> rfl

/-! ## The automatic resume and the loader's examination (R140, R173) -/

theorem holdsSuspension_eq_false_iff (r : Reader) :
    r.holdsSuspension = false ↔ r = .chunk ∨ r = .droppedChunk ∨ r = .loader := by
  cases r <;> simp [Reader.holdsSuspension]

theorem autoResumes_iff (t : TableStore) :
    t.autoResumes = true ↔
      t.phase = .suspended .auto ∧ t.active = none ∧ t.fills = [] ∧ t.storeRead = none ∧
        ∀ q ∈ t.reading, q.reader = .chunk ∨ q.reader = .droppedChunk ∨ q.reader = .loader := by
  have hreading : t.reading.any (fun r => r.reader.holdsSuspension) = false ↔
      ∀ q ∈ t.reading, q.reader = .chunk ∨ q.reader = .droppedChunk ∨ q.reader = .loader := by
    simp only [← holdsSuspension_eq_false_iff]
    cases t.reading <;> simp
  simp only [TableStore.autoResumes, Bool.and_eq_true, decide_eq_true_eq, Option.isNone_iff_eq_none, List.isEmpty_iff,
    Bool.not_eq_true', hreading, and_assoc]

theorem loaderExamine_of_not_waiting (h : ¬ (s.sul.state = .waitStore ∧ s.ts.active = none)) : loaderExamine s = s := by
  rw [loaderExamine, if_neg (by simpa only [Option.isNone_iff_eq_none] using h)]

/-- The loader resumes an operation suspended in sectors 4 to 6. -/
theorem loaderExamine_of_policy (h : s.sul.state = .waitStore ∧ s.ts.active = none) {o : Operation}
    (ho : s.ts.suspended = some o) (hfirst : 4 ≤ o.op.sector) (hlast : o.op.sector ≤ 6) :
    loaderExamine s = resume s := by
  rw [loaderExamine, if_pos (by simpa only [Option.isNone_iff_eq_none] using h), if_pos (by simp [ho, hfirst, hlast])]

/-- Beside no such operation the loader waits for an AUTO suspension to end, and otherwise enters READING. -/
theorem loaderExamine_of_other (h : s.sul.state = .waitStore ∧ s.ts.active = none)
    (hother : ∀ o : Operation, s.ts.suspended = some o → o.op.sector < 4 ∨ 6 < o.op.sector) :
    loaderExamine s =
      if s.ts.phase = .suspended .auto then s else { s with sul := { s.sul with state := .reading 0 none 0 } } := by
  have hpolicy : ¬ s.ts.suspended.any (fun o => 4 ≤ o.op.sector && o.op.sector ≤ 6) = true := by
    simp only [Option.any_eq_true, Bool.and_eq_true, decide_eq_true_eq, not_exists, not_and]
    intro o ho hfirst
    have := hother o ho
    omega
  rw [loaderExamine, if_pos (by simpa only [Option.isNone_iff_eq_none] using h), if_neg hpolicy]

end Sys2Proof.Machine

namespace Sys2Proof
open Sys2Proof.Machine

/-- Settles O38: the rows of R137, the readers in the arbiter's order, and the resumes by their conditions. -/
theorem fillsAreJudgedAndServed : Obligations.FillsAreJudgedAndServed := by
  refine ⟨?_, fun s => ⟨arbiter_of_reading, ?_⟩, fun s => ⟨rfl, rfl, ?_⟩⟩
  · intro s i unit sector joins refused
    exact judgeFill_eq i unit s
  · intro hfree read
    refine ⟨fun _ _ _ hfills hf hbefore hslots => arbiter_of_fill hfree hfills hf hbefore hslots, fun hfills => ?_⟩
    refine ⟨fun q hq => arbiter_of_storeRead hfree hfills hq, fun hstoreRead => ?_⟩
    have hchunk := chunkEligible_iff s
    refine ⟨fun k bad hrunning hactive hsuspended hsuspending hempty => ?_,
      fun k record bad hidle hreading hactive => ?_, fun hactive => ?_, fun hreading hblocked => ?_⟩
    · exact arbiter_of_chunk hfree hfills hstoreRead hrunning
        (hchunk.2 ⟨by simp [hrunning], hactive, by simp [hsuspended, hsuspending], hempty, hstoreRead⟩)
    · have hnone : chunkEligible s = false := Bool.eq_false_iff.2 fun h => (hchunk.1 h).1 hidle
      rw [arbiter_of_loader hfree hfills hstoreRead hnone hreading, if_pos hactive, loaderRead_eq]
      rfl
    · have hnone : chunkEligible s = false := Bool.eq_false_iff.2 fun h => hactive (hchunk.1 h).2.1
      by_cases hreading : ∃ k record bad, s.sul.state = .reading k record bad
      · obtain ⟨k, record, bad, hreading⟩ := hreading
        rw [arbiter_of_loader hfree hfills hstoreRead hnone hreading, if_neg hactive]
      · exact arbiter_of_no_loader hfree hfills hstoreRead hnone fun k record bad h => hreading ⟨k, record, bad, h⟩
    · have hnone : chunkEligible s = false := Bool.eq_false_iff.2 fun h => by
        obtain ⟨hrunning, -, hphase, hempty, -⟩ := hchunk.1 h
        tauto
      exact arbiter_of_no_loader hfree hfills hstoreRead hnone hreading
  · intro allows examines
    have hallows : s.ts.autoResumes = true ↔ allows := autoResumes_iff s.ts
    refine ⟨fun h => ?_, loaderExamine_of_not_waiting, loaderExamine_of_other, ?_⟩
    · rw [autoResume, if_neg (mt hallows.1 h)]
    · intro o ho resumed
      have hresume : resume s = resumed := resume_of_suspended ho
      refine ⟨fun h => ?_, fun h hfirst hlast => ?_⟩
      · rw [autoResume, if_pos (hallows.2 h), hresume]
      · rw [loaderExamine_of_policy h ho hfirst hlast, hresume]

end Sys2Proof
end

section
/-!
The Fault Record File: its collapse keys, what a report does by the case of R147, and that reports and clearings keep the file sound (R145, R147, R149).
-/

namespace Sys2Proof.Machine

variable {f f' : FaultFile}

/-! ## Collapse keys (R145) -/

@[simp] theorem key_again (r : FaultRecord) : r.again.key = r.key := rfl

@[simp] theorem key_with_repeats (r : FaultRecord) (n : Byte) : FaultRecord.key { r with repeats := n } = r.key := rfl

/-- Two faults collapse when they agree in kind and unit, and without a unit in the branch. -/
theorem key_eq_iff (x y : FaultRecord) :
    x.key = y.key ↔ x.kind = y.kind ∧ x.unit = y.unit ∧ (x.unit = none → x.branch = y.branch) := by
  cases hx : x.unit <;> cases hy : y.unit <;> simp [FaultRecord.key, hx, hy]

/-- A pending record is the only one with its key. -/
theorem FaultFileSound.eq_of_key (h : FaultFileSound f) {i j : Fin 8} {x y : FaultRecord}
    (hi : f.records[i.val] = some x) (hj : f.records[j.val] = some y) (hkey : x.key = y.key) : i = j := by
  obtain ⟨hdistinct, -⟩ := h
  by_contra hij
  exact hdistinct i j hij (by simp [hi]) (by simp [hi, hj, hkey])

/-! ## The searches of a report (R147) -/

theorem withKey_eq_some (h : FaultFileSound f) {i : Fin 8} {x : FaultRecord} (hi : f.records[i.val] = some x) :
    f.withKey x.key = some i := by
  refine find_finRange_eq_some (by simp [hi]) fun j hj => ?_
  cases hrecord : f.records[j.val] with
  | none => simp
  | some y => simpa using fun hkey => hj.ne (h.eq_of_key hrecord hi hkey)

theorem withKey_eq_none {k : FaultKey}
    (h : ∀ (i : Fin 8) (x : FaultRecord), f.records[i.val] = some x → x.key ≠ k) : f.withKey k = none :=
  List.find?_eq_none.2 fun i _ => by simpa using h i

theorem lowestFree_eq_some {i : Fin 8} (hi : f.records[i.val] = none)
    (hlower : ∀ j : Fin 8, j < i → f.records[j.val] ≠ none) : f.lowestFree = some i :=
  find_finRange_eq_some (by simp [hi]) fun j hj => by
    simpa [Option.isSome_iff_ne_none] using hlower j hj

theorem lowestFree_eq_none (h : ∀ i : Fin 8, f.records[i.val] ≠ none) : f.lowestFree = none :=
  List.find?_eq_none.2 fun i _ => by simpa using h i

theorem anyPending_iff (f : FaultFile) : f.anyPending = true ↔ ∃ j : Fin 8, f.records[j.val] ≠ none := by
  simp [FaultFile.anyPending, Option.isSome_iff_ne_none]

/-! ## A report, case by case (R147) -/

theorem report_of_pending (h : FaultFileSound f) {i : Fin 8} {x r : FaultRecord} (hi : f.records[i.val] = some x)
    (hkey : x.key = r.key) : f.report r = { f with records := f.records.set i.val (some x.again) } := by
  rw [FaultFile.report, ← hkey, withKey_eq_some h hi]
  simp [hi]

theorem report_of_free {i : Fin 8} {r : FaultRecord}
    (hnew : ∀ (j : Fin 8) (x : FaultRecord), f.records[j.val] = some x → x.key ≠ r.key)
    (hi : f.records[i.val] = none) (hlower : ∀ j : Fin 8, j < i → f.records[j.val] ≠ none) :
    f.report r =
      { f with
        records := f.records.set i.val (some { r with repeats := 0 })
        firstPending := if ∃ j : Fin 8, f.records[j.val] ≠ none then f.firstPending else some i } := by
  simp only [FaultFile.report, withKey_eq_none hnew, lowestFree_eq_some hi hlower, anyPending_iff]

theorem report_of_full {r : FaultRecord}
    (hnew : ∀ (j : Fin 8) (x : FaultRecord), f.records[j.val] = some x → x.key ≠ r.key)
    (hfull : ∀ i : Fin 8, f.records[i.val] ≠ none) : f.report r = { f with overflow := true } := by
  simp only [FaultFile.report, withKey_eq_none hnew, lowestFree_eq_none hfull]

/-! ## Soundness (R145) -/

/-- A record of the file after one of them is given a value. -/
theorem getElem_set_record (records : Vector (Option FaultRecord) 8) (i j : Fin 8) (r : Option FaultRecord) :
    (records.set i.val r)[j.val] = if j = i then r else records[j.val] := by
  simp only [Vector.getElem_set, Fin.ext_iff, eq_comm]

/-- Soundness speaks of the keys of the pending records and of the first-pending index only. -/
theorem FaultFileSound.of_keys (h : FaultFileSound f)
    (hkeys : ∀ i : Fin 8, f'.records[i.val].map FaultRecord.key = f.records[i.val].map FaultRecord.key)
    (hfirst : f'.firstPending = f.firstPending) : FaultFileSound f' := by
  obtain ⟨hdistinct, hpending⟩ := h
  have hisSome : ∀ i : Fin 8, f'.records[i.val].isSome = f.records[i.val].isSome := fun i => by
    simpa using congrArg Option.isSome (hkeys i)
  refine ⟨fun i j hij hi => ?_, fun i hi => ?_⟩
  · rw [hkeys, hkeys]
    exact hdistinct i j hij (by rwa [← hisSome])
  · rw [hisSome]
    exact hpending i (hfirst ▸ hi)

/-- A record with a new key is put into the file. -/
theorem FaultFileSound.put (h : FaultFileSound f) {i : Fin 8} {r : FaultRecord} {first : Option (Fin 8)}
    (hnew : ∀ j : Fin 8, f.records[j.val].map FaultRecord.key ≠ some r.key)
    (hfirst : ∀ j, first = some j → j = i ∨ f.firstPending = some j) :
    FaultFileSound { f with records := f.records.set i.val (some r), firstPending := first } := by
  obtain ⟨hdistinct, hpending⟩ := h
  refine ⟨fun j k hjk hj => ?_, fun j hj => ?_⟩
  · simp only [getElem_set_record] at hj ⊢
    split
    case isTrue hji =>
      rw [if_neg fun hki => hjk (hji.trans hki.symm)]
      exact (hnew k).symm
    case isFalse hji =>
      rw [if_neg hji] at hj
      split
      · exact hnew j
      · exact hdistinct j k hjk hj
  · simp only [getElem_set_record]
    split
    case isTrue => rfl
    case isFalse hji => exact hpending j ((hfirst j hj).resolve_left hji)

/-- A record is freed, and the first-pending index no longer names it. -/
theorem FaultFileSound.free (h : FaultFileSound f) {i : Fin 8} {first : Option (Fin 8)}
    (hfirst : ∀ j, first = some j → j ≠ i ∧ f.firstPending = some j) :
    FaultFileSound { f with records := f.records.set i.val none, firstPending := first } := by
  obtain ⟨hdistinct, hpending⟩ := h
  refine ⟨fun j k hjk hj => ?_, fun j hj => ?_⟩
  · simp only [getElem_set_record] at hj ⊢
    split at hj
    case isTrue => simp at hj
    case isFalse hji =>
      rw [if_neg hji]
      split
      · simpa [Option.isSome_iff_ne_none] using hj
      · exact hdistinct j k hjk hj
  · obtain ⟨hji, hold⟩ := hfirst j hj
    simp only [getElem_set_record, if_neg hji]
    exact hpending j hold

/-- A report keeps the file sound, by the cases of R147. -/
theorem faultFileSound_report (h : FaultFileSound f) (r : FaultRecord) : FaultFileSound (f.report r) := by
  unfold FaultFile.report
  split
  case h_1 i _ =>
    refine h.of_keys (fun j => ?_) rfl
    rw [getElem_set_record]
    split
    case isTrue hji => simp [hji, Function.comp_def]
    case isFalse => rfl
  case h_2 hnew =>
    split
    case h_1 i _ =>
      refine h.put (fun j => by simpa using List.find?_eq_none.1 hnew j (List.mem_finRange j)) fun j hj => ?_
      split at hj
      · exact .inr hj
      · exact .inl (Option.some.inj hj).symm
    case h_2 => exact h.of_keys (fun _ => rfl) rfl

/-- The clearing of one record keeps the file sound (R149). -/
theorem faultFileSound_clearOne (h : FaultFileSound f) (i : Fin 8) : FaultFileSound (f.clearOne i) := by
  unfold FaultFile.clearOne
  split
  · refine h.free fun j hj => ?_
    split at hj
    case isTrue => cases hj
    case isFalse hfirst => exact ⟨fun hji => hfirst (hji ▸ hj), hj⟩
  · exact h

/-- The clearing of one record or of all keeps the file sound (R149). -/
theorem faultFileSound_clear (h : FaultFileSound f) {b : Byte} (hf' : f.clear b = some f') : FaultFileSound f' := by
  unfold FaultFile.clear at hf'
  split at hf'
  · obtain rfl := Option.some.inj hf'
    exact faultFileSound_reset
  · split at hf'
    · obtain rfl := Option.some.inj hf'
      exact faultFileSound_clearOne h _
    · cases hf'

end Sys2Proof.Machine
end

section
/-!
The operations that report faults keep the Fault Record File sound (O56): refusals by policy, bad and reused requests, fills without a route, ends at a branch port, shutdowns, malformed descriptors, refused frames and invalid records (R146). A hypothesis written `by exact h` speaks of an earlier state whose file is the same by definition.
-/

namespace Sys2Proof.Machine

variable {s s' : State}

/-- The file is sound in another state that has the same one. -/
theorem faultFileSound_of_eq (h : FaultFileSound s.frf) (hfrf : s'.frf = s.frf) : FaultFileSound s'.frf := hfrf ▸ h

theorem faultFileSound_recordFault (h : FaultFileSound s.frf) (r : FaultRecord) :
    FaultFileSound (recordFault r s).frf := faultFileSound_report h r

/-- A fold whose every step keeps the file sound. -/
theorem faultFileSound_foldl {α : Type} {f : State → α → State} (h : FaultFileSound s.frf)
    (hf : ∀ s x, FaultFileSound s.frf → FaultFileSound (f s x).frf) (l : List α) : FaultFileSound (l.foldl f s).frf :=
  foldl_invariant f (fun s => FaultFileSound s.frf) hf l s h

theorem faultFileSound_endTransaction (h : FaultFileSound s.frf) (t : Tag) (o : OutcomeCode) (status : Option Byte)
    (watch : Bool) (payload : List Byte) : FaultFileSound (endTransaction t o status watch payload s).frf :=
  faultFileSound_of_eq h (by simp)

/-! ## The policy check (R11 to R16, R52 to R56) -/

theorem faultFileSound_refuseIllegal (h : FaultFileSound s.frf) (t : Tag) (channel : Nat) :
    FaultFileSound (refuseIllegal t channel s).frf :=
  faultFileSound_recordFault (faultFileSound_of_eq h (by simp)) _

theorem faultFileSound_actionChecks (h : FaultFileSound s.frf) (t : Tag) (i : SlotNo) (route : Route) :
    FaultFileSound (actionChecks t i route s).frf := by
  unfold actionChecks
  dsimp only
  split
  · exact faultFileSound_refuseIllegal h ..
  · split
    · exact faultFileSound_refuseIllegal h ..
    · exact faultFileSound_of_eq h (by simp)
    · exact faultFileSound_of_eq h (by simp)
    · exact faultFileSound_of_eq h (by simp)

theorem faultFileSound_unitPolicyCheck (h : FaultFileSound s.frf) (t : Tag) (i : SlotNo) (route : Route) :
    FaultFileSound (unitPolicyCheck t i route s).frf := by
  unfold unitPolicyCheck judgeUnitRequest
  dsimp only
  split
  · exact faultFileSound_of_eq h (by simp)
  · split
    · exact faultFileSound_of_eq h (by simp)
    · exact faultFileSound_of_eq h (by simp)
    · exact faultFileSound_actionChecks (by exact h) ..

theorem faultFileSound_broadcastPolicyCheck (h : FaultFileSound s.frf) (t : Tag) :
    FaultFileSound (broadcastPolicyCheck t s).frf := by
  unfold broadcastPolicyCheck judgeBroadcast
  dsimp only
  split
  · exact faultFileSound_of_eq h (by simp)
  · split
    · exact faultFileSound_refuseIllegal h ..
    · exact faultFileSound_of_eq h (by simp)
    · exact faultFileSound_of_eq h (by simp)
    · exact faultFileSound_of_eq h (by simp)

/-! ## Lookups and dispatches (R4 to R10, R29 to R32) -/

theorem faultFileSound_lookup (h : FaultFileSound s.frf) (t : Tag) : FaultFileSound (lookup t s).frf := by
  unfold lookup
  dsimp only
  split
  · exact faultFileSound_of_eq h (by simp)
  · split
    · exact faultFileSound_unitPolicyCheck (faultFileSound_of_eq h (by simp)) ..
    · exact faultFileSound_of_eq h (by simp)
    · exact h

theorem frf_managementRequest (r : RequestFrame) (s : State) : (managementRequest r s).frf = s.frf := by
  unfold managementRequest
  split
  · simp
  · split
    · simp
    · rfl

theorem faultFileSound_classify (h : FaultFileSound s.frf) (r : RequestFrame) : FaultFileSound (classify r s).frf := by
  unfold classify
  split
  · exact faultFileSound_of_eq h (frf_managementRequest r s)
  · split
    · exact faultFileSound_broadcastPolicyCheck h _
    · split
      · exact faultFileSound_of_eq h (by simp [answerQuery])
      · exact faultFileSound_lookup h _

theorem faultFileSound_dispatchFrame (h : FaultFileSound s.frf) (r : RequestFrame) :
    FaultFileSound (dispatchFrame r s).frf := by
  unfold dispatchFrame
  split
  · exact faultFileSound_recordFault (by exact h) _
  · have hfilled : FaultFileSound (fillRecord r s).frf := faultFileSound_of_eq h (by simp)
    split
    · exact faultFileSound_recordFault (faultFileSound_of_eq hfilled (by simp)) _
    · exact faultFileSound_classify hfilled r

/-! ## Fills and releases (R35 to R39, R61) -/

theorem faultFileSound_fillWithout (h : FaultFileSound s.frf) (k : FaultKind) (i : SlotNo) (unit : Byte)
    (waiters : List Tag) : FaultFileSound (fillWithout k i unit waiters s).frf := by
  have hfault : FaultFileSound (fillFault k unit waiters (s.setSlot i .empty)).frf := by
    unfold fillFault
    split
    · exact h
    · exact faultFileSound_recordFault (by exact h) _
  exact faultFileSound_of_eq hfault (by simp [fillWithout])

theorem faultFileSound_fillResult (h : FaultFileSound s.frf) (i : SlotNo) (bytes : List Byte) :
    FaultFileSound (fillResult i bytes s).frf := by
  unfold fillResult
  split
  · exact faultFileSound_of_eq h (by simp)
  · split
    · exact faultFileSound_foldl (faultFileSound_of_eq h (by simp))
        (fun _ _ hs => faultFileSound_unitPolicyCheck hs ..) _
    · exact faultFileSound_fillWithout h ..
    · exact faultFileSound_fillWithout h ..
  · exact h

theorem faultFileSound_release (h : FaultFileSound s.frf) (t : Tag) : FaultFileSound (release s t).frf := by
  unfold release
  split
  · exact faultFileSound_broadcastPolicyCheck h _
  · exact faultFileSound_lookup (by exact h) t

theorem faultFileSound_chunkArrived (h : FaultFileSound s.frf) (k : Fin 32) (bad : Nat) (bytes : List Byte) :
    FaultFileSound (chunkArrived k bad bytes s).frf := by
  unfold chunkArrived
  dsimp only
  split
  · exact faultFileSound_foldl (by exact h) (fun _ _ hs => faultFileSound_release hs _) _
  · exact h

/-! ## Ends at a branch port (R17, R70, R77, R78) -/

theorem faultFileSound_endUnit (h : FaultFileSound s.frf) (t : Tag) (cause : EndCause) (status : Option Byte) :
    FaultFileSound (endUnit t cause status s).frf := by
  have hfault : ∀ (u : State) (o : OutcomeCode), FaultFileSound u.frf → FaultFileSound (recordEndFault t o u).frf := by
    intro u o hu
    unfold recordEndFault
    split
    · exact faultFileSound_recordFault hu _
    · exact hu
  exact faultFileSound_endTransaction (hfault _ _ (faultFileSound_of_eq h (by simp))) ..

theorem faultFileSound_dropQueue (h : FaultFileSound s.frf) (b : Branch) : FaultFileSound (dropQueue b s).frf := by
  refine faultFileSound_foldl (by exact h) (fun s e hs => ?_) _
  unfold dropEntry
  split
  · exact faultFileSound_endUnit hs ..
  · exact faultFileSound_of_eq hs (by simp)

theorem faultFileSound_endExchange (h : FaultFileSound s.frf) (b : Branch) (x : Exchange) (cause : EndCause)
    (succeeded : Bool) (status : Option Byte) : FaultFileSound (endExchange b x cause succeeded status s).frf := by
  change FaultFileSound (reportEnd b x cause succeeded status s).frf
  unfold reportEnd
  split
  · exact faultFileSound_endUnit h ..
  · exact faultFileSound_of_eq h (by simp)
  · exact faultFileSound_of_eq h (by simp)

theorem faultFileSound_failAttempt (h : FaultFileSound s.frf) (b : Branch) (x : Exchange) (cause : EndCause) :
    FaultFileSound (failAttempt b x cause s).frf := by
  unfold failAttempt
  split
  · exact faultFileSound_endExchange h ..
  · split
    · exact faultFileSound_endExchange h ..
    · split
      · exact faultFileSound_endExchange h ..
      · exact h

theorem faultFileSound_shutDown (h : FaultFileSound s.frf) (b : Branch) (detail : Byte) :
    FaultFileSound (shutDown b detail s).frf := by
  unfold shutDown
  dsimp only
  refine faultFileSound_of_eq (s := recordFault _ _) (faultFileSound_recordFault (faultFileSound_dropQueue ?_ b) _) rfl
  split
  · exact faultFileSound_endExchange (by exact h) ..
  · exact h

/-! ## Events of a port (R79 to R87) -/

theorem faultFileSound_goodEcho (h : FaultFileSound s.frf) (b : Branch) (x : Exchange) :
    FaultFileSound (goodEcho b x s).frf := by
  unfold goodEcho
  dsimp only
  split
  · exact faultFileSound_endExchange (by exact h) ..
  · exact h

theorem faultFileSound_faultyEcho (h : FaultFileSound s.frf) (b : Branch) (x : Exchange) :
    FaultFileSound (faultyEcho b x s).frf := by
  unfold faultyEcho
  dsimp only
  split
  · exact faultFileSound_shutDown (by exact h) ..
  · exact faultFileSound_failAttempt (by exact h) ..

theorem faultFileSound_hearReply (h : FaultFileSound s.frf) (b : Branch) (x : Exchange) (heard : Heard) :
    FaultFileSound (hearReply b x heard s).frf := by
  unfold hearReply
  split
  · exact faultFileSound_endExchange (by exact h) ..
  · exact h
  · exact faultFileSound_failAttempt (by exact h) ..

/-! ## The trunk line, the engine and the loader (R112, R158, R162, R174) -/

theorem faultFileSound_receiveFrame (h : FaultFileSound s.frf) (frame : List Byte) :
    FaultFileSound (receiveFrame frame s).frf := by
  unfold receiveFrame
  split
  · exact faultFileSound_recordFault (by exact h) _
  · split <;> exact h

theorem frf_detectBreak (s : State) : (detectBreak s).frf = s.frf := by
  unfold detectBreak
  split
  · simp [breakEffects, freeTags]
  · rfl

theorem faultFileSound_returnToIdle (h : FaultFileSound s.frf) : FaultFileSound (returnToIdle s).frf := by
  unfold returnToIdle
  split
  · exact faultFileSound_receiveFrame (by exact h) _
  · exact h

theorem faultFileSound_processHead (h : FaultFileSound s.frf) (d : Descriptor) :
    FaultFileSound (processHead d s).frf := by
  unfold processHead
  split
  · exact faultFileSound_recordFault (by exact h) _
  · split
    · unfold performFence
      split
      · exact faultFileSound_of_eq h (by simp)
      · exact h
    · exact faultFileSound_of_eq h (by simp [completeDescriptor])

theorem faultFileSound_loaderArrived (h : FaultFileSound s.frf) (k : Fin 33) (record : Option LoadedRecord) (bad : Nat)
    (bytes : List Byte) : FaultFileSound (loaderArrived k record bad bytes s).frf := by
  have hload : ∀ (total : Nat) (u : State), FaultFileSound u.frf → FaultFileSound (applyLoad record total u).frf := by
    intro total u hu
    cases record with
    | none => exact faultFileSound_recordFault (by exact hu) (FaultRecord.plain .configInvalid)
    | some r => exact hu
  unfold loaderArrived
  split
  · exact h
  · dsimp only
    split
    · exact hload _ _ h
    · exact h

end Sys2Proof.Machine
end

section
/-!
Every step keeps the Fault Record File sound (O56): the events, then the commands of the opcode table.
-/

namespace Sys2Proof.Machine

variable {s s' : State}

/-! ## Events -/

/-- An event keeps what its body keeps, with power and without. -/
theorem faultFileSound_event {body : State} (h : FaultFileSound s.frf) (hbody : FaultFileSound body.frf)
    (hs' : event s body = .next s') : FaultFileSound s'.frf := by
  unfold event at hs'
  obtain rfl := Host.Outcome.next.inj hs'
  split
  · exact hbody
  · exact h

/-- An event that leaves the file as it was. -/
theorem faultFileSound_event_of_eq {body : State} (h : FaultFileSound s.frf) (hfrf : body.frf = s.frf)
    (hs' : event s body = .next s') : FaultFileSound s'.frf :=
  faultFileSound_event h (faultFileSound_of_eq h hfrf) hs'

theorem faultFileSound_settle (h : FaultFileSound s.frf) : FaultFileSound (settle s).frf :=
  faultFileSound_of_eq h (by simp)

/-! ## Power and transmission (R156) -/

theorem faultFileSound_execPowerOn (hs' : execPowerOn s = .next s') : FaultFileSound s'.frf := by
  unfold execPowerOn at hs'
  obtain rfl := Host.Outcome.next.inj hs'
  split <;> exact faultFileSound_reset

theorem faultFileSound_execPowerLoss (h : FaultFileSound s.frf) (hs' : execPowerLoss s = .next s') :
    FaultFileSound s'.frf := by
  unfold execPowerLoss at hs'
  obtain rfl := Host.Outcome.next.inj hs'
  split
  · exact faultFileSound_reset
  · exact h

theorem faultFileSound_execTransmissionEnd (h : FaultFileSound s.frf) (hs' : execTransmissionEnd s = .next s') :
    FaultFileSound s'.frf := by
  refine faultFileSound_event h ?_ hs'
  split
  · split
    · exact faultFileSound_settle (by exact faultFileSound_reset)
    · exact h
  · exact h

/-! ## The Dispatcher, the Route Cache and the loader -/

theorem faultFileSound_execDispatch (h : FaultFileSound s.frf) (hs' : execDispatch s = .next s') :
    FaultFileSound s'.frf := by
  refine faultFileSound_event h ?_ hs'
  split
  · exact faultFileSound_settle (faultFileSound_dispatchFrame (by exact h) _)
  · exact h

theorem faultFileSound_execFillCompletion (h : FaultFileSound s.frf) (hs' : execFillCompletion s = .next s') :
    FaultFileSound s'.frf := by
  refine faultFileSound_event h ?_ hs'
  split
  · exact faultFileSound_settle (faultFileSound_fillResult (by exact h) ..)
  · exact faultFileSound_settle h
  · exact h

theorem faultFileSound_execChunkCompletion (h : FaultFileSound s.frf) (hs' : execChunkCompletion s = .next s') :
    FaultFileSound s'.frf := by
  refine faultFileSound_event h ?_ hs'
  split
  · exact faultFileSound_settle (faultFileSound_chunkArrived (by exact h) ..)
  · exact faultFileSound_settle h
  · exact h

theorem faultFileSound_execLoaderReadCompletion (h : FaultFileSound s.frf)
    (hs' : execLoaderReadCompletion s = .next s') : FaultFileSound s'.frf := by
  refine faultFileSound_event h ?_ hs'
  split
  · exact faultFileSound_settle (faultFileSound_loaderArrived (by exact h) ..)
  · exact h

theorem faultFileSound_execProcessingEvent (h : FaultFileSound s.frf) (hs' : execProcessingEvent s = .next s') :
    FaultFileSound s'.frf := by
  refine faultFileSound_event h ?_ hs'
  split
  · exact faultFileSound_processHead h _
  · exact h

/-! ## The trunk line and the branch ports -/

theorem faultFileSound_execLineReturnsToIdle (h : FaultFileSound s.frf) (hs' : execLineReturnsToIdle s = .next s') :
    FaultFileSound s'.frf :=
  faultFileSound_event h (faultFileSound_returnToIdle (faultFileSound_of_eq h (frf_detectBreak s))) hs'

theorem faultFileSound_execFrameCompletion {frame : LineFrame} (h : FaultFileSound s.frf)
    (hs' : execFrameCompletion frame s = .next s') : FaultFileSound s'.frf := by
  refine faultFileSound_event h ?_ hs'
  split
  · exact faultFileSound_receiveFrame h _
  · exact h

theorem faultFileSound_execBranchTransmissionEnd {b : Branch} {heard : List Byte} (h : FaultFileSound s.frf)
    (hs' : execBranchTransmissionEnd b heard s = .next s') : FaultFileSound s'.frf := by
  refine faultFileSound_event h ?_ hs'
  split
  · split
    · exact faultFileSound_goodEcho h ..
    · exact faultFileSound_faultyEcho h ..
  · exact h

theorem faultFileSound_execTransmitWatchdogExpiry {b : Branch} (h : FaultFileSound s.frf)
    (hs' : execTransmitWatchdogExpiry b s = .next s') : FaultFileSound s'.frf := by
  refine faultFileSound_event h ?_ hs'
  split
  · exact faultFileSound_shutDown h ..
  · exact h

theorem faultFileSound_execResponseTimerExpiry {b : Branch} (h : FaultFileSound s.frf)
    (hs' : execResponseTimerExpiry b s = .next s') : FaultFileSound s'.frf := by
  refine faultFileSound_event h ?_ hs'
  split
  · exact faultFileSound_failAttempt (by exact h) ..
  · exact h

theorem faultFileSound_execBranchFrameHeard {b : Branch} {bytes : List Byte} (h : FaultFileSound s.frf)
    (hs' : execBranchFrameHeard b bytes s = .next s') : FaultFileSound s'.frf := by
  refine faultFileSound_event h ?_ hs'
  split
  · exact faultFileSound_hearReply h ..
  · exact h
  · exact h

/-! ## Management commands (R165) -/

theorem faultFileSound_reply (h : FaultFileSound s.frf) (t : Tag) (result : ResultCode) (data : List Byte) :
    FaultFileSound (reply t result data s).frf := faultFileSound_of_eq h (by simp)

/-- A management command, executed from the head of the Management Queue or not. -/
theorem faultFileSound_command {code : Nat → Bool} {body : Tag → List Byte → State → State} (h : FaultFileSound s.frf)
    (hs' : event s (whenCommand code body s) = .next s') (hbody : ∀ t params, FaultFileSound (body t params s).frf) :
    FaultFileSound s'.frf := by
  refine faultFileSound_event h ?_ hs'
  unfold whenCommand
  split
  · split
    · exact hbody ..
    · exact h
  · exact h

/-- A management command that leaves the file as it was. -/
theorem faultFileSound_command_of_eq {code : Nat → Bool} {body : Tag → List Byte → State → State}
    (h : FaultFileSound s.frf) (hs' : event s (whenCommand code body s) = .next s')
    (hbody : ∀ t params, (body t params s).frf = s.frf) : FaultFileSound s'.frf :=
  faultFileSound_command h hs' fun t params => faultFileSound_of_eq h (hbody t params)

/-- A management command that takes no parameters and leaves the file as it was. -/
theorem faultFileSound_plainCommand {code : Nat → Bool} {body : Tag → State → State} (h : FaultFileSound s.frf)
    (hs' : event s (whenCommand code (withoutParameters body) s) = .next s')
    (hbody : ∀ t, (body t s).frf = s.frf) : FaultFileSound s'.frf :=
  faultFileSound_command_of_eq h hs' fun t params => by
    unfold withoutParameters
    split
    · exact hbody t
    · simp

/-- PORT-CONTROL executed by the row of one action (R68). -/
theorem faultFileSound_portControl (h : FaultFileSound s.frf) {action : PortAction}
    {body : Tag → Branch → State → State} (hbody : ∀ t b, FaultFileSound (body t b s).frf) (t : Tag)
    (params : List Byte) : FaultFileSound (portControl action body t params s).frf := by
  unfold portControl
  split
  · split
    · exact hbody ..
    · exact h
  · exact faultFileSound_reply h ..

theorem faultFileSound_disableCommand (h : FaultFileSound s.frf) (t : Tag) (b : Branch) :
    FaultFileSound (disableCommand t b s).frf := by
  unfold disableCommand
  dsimp only
  split
  · exact faultFileSound_reply (faultFileSound_dropQueue (by exact h) b) ..
  · exact faultFileSound_reply (by exact h) ..

/-- FAULT-CLEAR answers with the file that it leaves (R149). -/
theorem faultFileSound_faultClearCommand (h : FaultFileSound s.frf) (t : Tag) (params : List Byte) :
    FaultFileSound (faultClearCommand t params s).frf := by
  unfold faultClearCommand
  split
  case h_1 => exact faultFileSound_reply h ..
  case h_2 f hclear =>
    have hsound : FaultFileSound f := faultFileSound_clear h (Option.ite_none_right_eq_some.1 hclear).2
    exact faultFileSound_reply (by exact hsound) ..

/-! ## The commands that leave the file as it was -/

theorem frf_setConfigCommand (t : Tag) (params : List Byte) (s : State) :
    (setConfigCommand t params s).frf = s.frf := by
  unfold setConfigCommand
  split <;> simp [applyConfig]

theorem frf_setEventMaskCommand (t : Tag) (params : List Byte) (s : State) :
    (setEventMaskCommand t params s).frf = s.frf := by
  unfold setEventMaskCommand
  split <;> simp

theorem frf_unitStatusReadCommand (t : Tag) (params : List Byte) (s : State) :
    (unitStatusReadCommand t params s).frf = s.frf := by
  unfold unitStatusReadCommand
  dsimp only
  split <;> simp

theorem frf_countersReadCommand (t : Tag) (params : List Byte) (s : State) :
    (countersReadCommand t params s).frf = s.frf := by
  unfold countersReadCommand
  split <;> simp

theorem frf_cacheReadCommand (t : Tag) (params : List Byte) (s : State) :
    (cacheReadCommand t params s).frf = s.frf := by
  unfold cacheReadCommand
  split <;> simp

theorem frf_queueInvalidationCommand (t : Tag) (params : List Byte) (s : State) :
    (queueInvalidationCommand t params s).frf = s.frf := by
  unfold queueInvalidationCommand
  dsimp only
  split
  · simp
  · split <;> simp

theorem frf_iqRecoverCommand (t : Tag) (s : State) : (iqRecoverCommand t s).frf = s.frf := by
  unfold iqRecoverCommand
  split <;> simp

theorem frf_enableCommand (t : Tag) (b : Branch) (s : State) : (enableCommand t b s).frf = s.frf := by
  unfold enableCommand
  split <;> simp [replyPort]

theorem frf_cancelCommand (t : Tag) (params : List Byte) (s : State) : (cancelCommand t params s).frf = s.frf := by
  have hcancel : ∀ v, (cancelTransaction v s).2.frf = s.frf := fun v => by
    unfold cancelTransaction
    split <;> simp
  unfold cancelCommand
  dsimp only
  split <;> simp [hcancel]

theorem frf_writeEnableCommand (t : Tag) (s : State) : (writeEnableCommand t s).frf = s.frf := by
  unfold writeEnableCommand
  split <;> simp

theorem frf_operationCommand (t : Tag) (o : StoreOp) (refuses : Bool) (s : State) :
    (operationCommand t o refuses s).frf = s.frf := by
  unfold operationCommand
  split <;> simp

theorem frf_programCommand (t : Tag) (params : List Byte) (s : State) : (programCommand t params s).frf = s.frf := by
  unfold programCommand
  split
  · simp
  · exact frf_operationCommand ..

theorem frf_eraseCommand (t : Tag) (params : List Byte) (s : State) : (eraseCommand t params s).frf = s.frf := by
  unfold eraseCommand
  split
  · simp
  · exact frf_operationCommand ..

theorem frf_resumeCommand (t : Tag) (s : State) : (resumeCommand t s).frf = s.frf := by
  unfold resumeCommand
  split <;> simp

theorem frf_storeReadCommand (t : Tag) (params : List Byte) (s : State) :
    (storeReadCommand t params s).frf = s.frf := by
  unfold storeReadCommand
  dsimp only
  split
  · simp
  · split
    · simp
    · split <;> simp

theorem frf_finishStoreRead (bytes : List Byte) (s : State) : (finishStoreRead bytes s).frf = s.frf := by
  unfold finishStoreRead
  split <;> simp

theorem frf_protectCommand (t : Tag) (params : List Byte) (s : State) : (protectCommand t params s).frf = s.frf := by
  unfold protectCommand
  split
  · simp
  · split
    · simp
    · split <;> simp

theorem frf_startActivation (t : Tag) (s : State) : (startActivation t s).frf = s.frf := by
  unfold startActivation
  split <;> simp

/-- ACTIVATE-POLICY executed by the row of one mode (R64). -/
theorem frf_activatePolicy {mode : ActivationMode} {body : Tag → State → State} (hbody : ∀ t, (body t s).frf = s.frf)
    (t : Tag) (params : List Byte) : (activatePolicy mode body t params s).frf = s.frf := by
  unfold activatePolicy
  split
  · split
    · exact hbody t
    · rfl
  · simp

/-! ## Every command, and every step -/

/-- Every command of the opcode table keeps the file sound. -/
theorem faultFileSound_exec (h : FaultFileSound s.frf) {c : Instr} (hs' : exec c s = .next s') :
    FaultFileSound s'.frf := by
  cases c with
  | powerOn => exact faultFileSound_execPowerOn hs'
  | powerLoss => exact faultFileSound_execPowerLoss h hs'
  | lineEntersBreak received => exact faultFileSound_event_of_eq h (by split <;> rfl) hs'
  | lineReturnsToIdle => exact faultFileSound_execLineReturnsToIdle h hs'
  | trunkBreak => exact faultFileSound_event_of_eq h (frf_detectBreak s) hs'
  | frameCompletion frame => exact faultFileSound_execFrameCompletion h hs'
  | dispatch => exact faultFileSound_execDispatch h hs'
  | fillCompletion => exact faultFileSound_execFillCompletion h hs'
  | fillRefusal slot => exact faultFileSound_event_of_eq h (by split <;> simp) hs'
  | takeHead branch => exact faultFileSound_event_of_eq h (by split <;> simp) hs'
  | branchTransmissionEnd branch heard => exact faultFileSound_execBranchTransmissionEnd h hs'
  | transmitWatchdogExpiry branch => exact faultFileSound_execTransmitWatchdogExpiry h hs'
  | responseTimerExpiry branch => exact faultFileSound_execResponseTimerExpiry h hs'
  | branchFrameHeard branch bytes => exact faultFileSound_execBranchFrameHeard h hs'
  | startOfTransmission => exact faultFileSound_event_of_eq h (by split <;> rfl) hs'
  | transmissionEnd => exact faultFileSound_execTransmissionEnd h hs'
  | operationCompletion => exact faultFileSound_event_of_eq h (by split <;> simp) hs'
  | suspendEffective => exact faultFileSound_event_of_eq h (by split <;> simp) hs'
  | holdoffExpiry => exact faultFileSound_event_of_eq h (by split <;> simp) hs'
  | storeReadCompletion => exact faultFileSound_event_of_eq h (by split <;> simp [frf_finishStoreRead]) hs'
  | chunkCompletion => exact faultFileSound_execChunkCompletion h hs'
  | loaderReadCompletion => exact faultFileSound_execLoaderReadCompletion h hs'
  | intervalTimerExpiry => exact faultFileSound_event_of_eq h (by split <;> rfl) hs'
  | processingEvent => exact faultFileSound_execProcessingEvent h hs'
  | identify => exact faultFileSound_plainCommand h hs' fun t => by simp [identifyCommand]
  | readConfig => exact faultFileSound_plainCommand h hs' fun t => by simp [readConfigCommand]
  | setConfig => exact faultFileSound_command_of_eq h hs' fun t params => frf_setConfigCommand ..
  | events => exact faultFileSound_plainCommand h hs' fun t => by simp [eventsCommand, clearLatches]
  | setEventMask => exact faultFileSound_command_of_eq h hs' fun t params => frf_setEventMaskCommand ..
  | faultRead => exact faultFileSound_plainCommand h hs' fun t => by simp [faultReadCommand]
  | faultClear => exact faultFileSound_command h hs' <| faultFileSound_faultClearCommand h
  | changesRead => exact faultFileSound_plainCommand h hs' fun t => by simp [changesReadCommand]
  | unitStatusRead => exact faultFileSound_command_of_eq h hs' fun t params => frf_unitStatusReadCommand ..
  | countersRead => exact faultFileSound_command_of_eq h hs' fun t params => frf_countersReadCommand ..
  | snapshot => exact faultFileSound_plainCommand h hs' fun t => by simp [snapshotCommand]
  | portControlEnable =>
    exact faultFileSound_command h hs' <|
      faultFileSound_portControl h fun t b => faultFileSound_of_eq h (frf_enableCommand ..)
  | portControlDisable =>
    exact faultFileSound_command h hs' <| faultFileSound_portControl h <| faultFileSound_disableCommand h
  | portControlReport =>
    exact faultFileSound_command h hs' <| faultFileSound_portControl h fun t b => faultFileSound_reply h ..
  | cancel => exact faultFileSound_command_of_eq h hs' fun t params => frf_cancelCommand ..
  | queueInvalidation => exact faultFileSound_command_of_eq h hs' fun t params => frf_queueInvalidationCommand ..
  | iqStatus => exact faultFileSound_plainCommand h hs' fun t => by simp [iqStatusCommand]
  | iqRecover => exact faultFileSound_plainCommand h hs' fun t => frf_iqRecoverCommand ..
  | storeWriteEnable => exact faultFileSound_plainCommand h hs' fun t => frf_writeEnableCommand ..
  | storeWriteDisable => exact faultFileSound_plainCommand h hs' fun t => by simp [writeDisableCommand]
  | storeProgram => exact faultFileSound_command_of_eq h hs' fun t params => frf_programCommand ..
  | storeErase => exact faultFileSound_command_of_eq h hs' fun t params => frf_eraseCommand ..
  | storeSuspend => exact faultFileSound_plainCommand h hs' fun t => by simp [suspendCommand]
  | storeResume => exact faultFileSound_plainCommand h hs' fun t => frf_resumeCommand ..
  | storeRead => exact faultFileSound_command_of_eq h hs' fun t params => frf_storeReadCommand ..
  | storeStatus => exact faultFileSound_plainCommand h hs' fun t => by simp [storeStatusCommand]
  | storeProtect => exact faultFileSound_command_of_eq h hs' fun t params => frf_protectCommand ..
  | activatePolicyStart =>
    exact faultFileSound_command_of_eq h hs' <| frf_activatePolicy fun t => frf_startActivation ..
  | activatePolicyReport =>
    exact faultFileSound_command_of_eq h hs' <| frf_activatePolicy fun t => by simp [reportActivation]
  | cacheRead => exact faultFileSound_command_of_eq h hs' fun t params => frf_cacheReadCommand ..
  | resetBridge => exact faultFileSound_plainCommand h hs' fun t => by simp [resetBridgeCommand]
  | unknownCommand => exact faultFileSound_command_of_eq h hs' fun t params => by simp [unknownCommand]

theorem faultFileSound_step (h : FaultFileSound s.frf) (hs' : step s = .next s') : FaultFileSound s'.frf := by
  unfold step at hs'
  split at hs'
  case h_1 =>
    obtain rfl := Host.Outcome.next.inj hs'
    unfold tick
    split <;> exact h
  case h_2 c rest _ => exact faultFileSound_exec (s := s.withPending rest) h hs'

end Sys2Proof.Machine

namespace Sys2Proof
open Sys2Proof.Machine

/-- Settles O56: reports and clearings keep the file sound, and no command changes it otherwise but by a reset. -/
theorem faultFileIsKept : Obligations.FaultFileIsKept := by
  intro s s' hsound hstep
  exact faultFileSound_step hsound hstep

end Sys2Proof
end

section
/-!
Faults and counters (O52): a fault collapses, takes the lowest free record or is lost (R147), and a counter advances to 65535 and stays there (R150).
-/

namespace Sys2Proof.Machine

variable {s : State}

/-! ## Faults (R147) -/

/-- A fault with the key of a pending record collapses into that record. -/
theorem recordFault_of_pending (h : FaultFileSound s.frf) {i : Fin 8} {x r : FaultRecord}
    (hi : s.frf.records[i.val] = some x) (hkey : x.key = r.key) :
    recordFault r s = { s with frf := { s.frf with records := s.frf.records.set i.val (some x.again) } } := by
  rw [recordFault, report_of_pending h hi hkey]

/-- A fault with a new key takes the lowest free record. -/
theorem recordFault_of_free {i : Fin 8} {r : FaultRecord}
    (hnew : ∀ (j : Fin 8) (x : FaultRecord), s.frf.records[j.val] = some x → x.key ≠ r.key)
    (hi : s.frf.records[i.val] = none) (hlower : ∀ j : Fin 8, j < i → s.frf.records[j.val] ≠ none) :
    recordFault r s =
      { s with
        frf :=
          { s.frf with
            records := s.frf.records.set i.val (some { r with repeats := 0 })
            firstPending := if ∃ j : Fin 8, s.frf.records[j.val] ≠ none then s.frf.firstPending else some i } } := by
  rw [recordFault, report_of_free hnew hi hlower]

/-- A fault with a new key is lost when every record is pending. -/
theorem recordFault_of_full {r : FaultRecord}
    (hnew : ∀ (j : Fin 8) (x : FaultRecord), s.frf.records[j.val] = some x → x.key ≠ r.key)
    (hfull : ∀ i : Fin 8, s.frf.records[i.val] ≠ none) :
    recordFault r s = { s with frf := { s.frf with overflow := true } } := by
  rw [recordFault, report_of_full hnew hfull]

/-! ## Counters (R150) -/

/-- The advance that reaches 65535 starts from 65534. -/
theorem add_one_eq_counterMax_iff (v : Word) : v + 1 = counterMax ↔ v = 65534 :=
  ⟨fun h => add_right_cancel (b := (1 : Word)) h, fun h => by subst h; rfl⟩

/-- A counter at 65535 stays there, and latches nothing. -/
theorem count_of_max {c : Counter} (h : s.pm.live[c.place.val] = 65535) : count c s = s := by
  have hadvance : s.pm.advance c = s.pm := if_pos h
  have hlatch : s.pm.saturates c = false := by simp [PerformanceMonitor.saturates, h, counterMax]
  simp [count, hadvance, hlatch]

/-- Any other counter advances by one; the advance from 65534 saturates it. -/
theorem count_of_not_max {c : Counter} (h : s.pm.live[c.place.val] ≠ 65535) :
    count c s =
      { s with
        pm :=
          { s.pm with
            live := s.pm.live.set c.place.val (s.pm.live[c.place.val] + 1)
            saturated :=
              if s.pm.live[c.place.val] = 65534 then s.pm.saturated.set c.place.val true else s.pm.saturated }
        es := { s.es with counterSaturated := s.es.counterSaturated || s.pm.live[c.place.val] == 65534 } } := by
  have hmax : ¬ s.pm.live[c.place.val] = counterMax := h
  simp only [count, PerformanceMonitor.advance, if_neg hmax, PerformanceMonitor.saturates, add_one_eq_counterMax_iff,
    beq_eq_decide]

/-- The counters of a branch stand in the order of R150. -/
theorem place_branch (b : Branch) (c : BranchCounter) :
    (Counter.branch b c).place.val = 7 * b.val + c.place.val := rfl

/-- The counters of the trunk stand after those of the four branches (R150). -/
theorem place_trunk (c : TrunkCounter) : (Counter.trunk c).place.val = 28 + c.place.val := rfl

/-- The counters of the bridge stand last (R150). -/
theorem place_bridge (c : BridgeCounter) : (Counter.bridge c).place.val = 33 + c.place.val := rfl

end Sys2Proof.Machine

namespace Sys2Proof
open Sys2Proof.Machine

/-- Settles O52: the three cases of a report by the collapse key, then the places and the advance of a counter. -/
theorem faultsAndCountersAreRecorded : Obligations.FaultsAndCountersAreRecorded := by
  refine ⟨?_, fun b c => ?_, fun c => ?_, fun c => ?_, ?_⟩
  · intro s r hsound sameKey
    have hkey : ∀ x, x.key = r.key ↔ sameKey x r := fun x => key_eq_iff x r
    refine ⟨fun i x hi hsame => recordFault_of_pending hsound hi ((hkey x).2 hsame), fun hnew => ?_⟩
    have hnew' : ∀ (j : Fin 8) (x : FaultRecord), s.frf.records[j.val] = some x → x.key ≠ r.key :=
      fun j x hj => mt (hkey x).1 (hnew j x hj)
    exact ⟨fun i hi hlower => recordFault_of_free hnew' hi hlower, recordFault_of_full hnew'⟩
  · rw [place_branch]
    cases c <;> rfl
  · rw [place_trunk]
    cases c <;> rfl
  · rw [place_bridge]
    cases c <;> rfl
  · intro s c v
    split
    case isTrue hmax => exact count_of_max hmax
    case isFalse hmax => exact count_of_not_max hmax

end Sys2Proof
end

section
/-!
FAULT-READ (O5) and FAULT-CLEAR (O16): the report of the fault file, and the records that a clearing frees (R148, R149).
-/

namespace Sys2Proof.Machine

variable {s : State} {t : Tag} {params : List Byte}

/-! ## The report (R148, R180) -/

/-- A byte put together flag by flag holds a bit exactly when it did before or some flag at that bit is set (R176). -/
theorem bitOf_foldl_flagAt {α : Type} (place : α → Nat) (flag : α → Bool) (n : Fin 8) (l : List α)
    (hplace : ∀ a ∈ l, place a < 8) (b : Byte) :
    bitOf n.val (l.foldl (fun b a => b ||| flagAt (place a) (flag a)) b) =
      (bitOf n.val b || l.any fun a => flag a && n.val == place a) := by
  induction l generalizing b with
  | nil => simp
  | cons a l ih =>
    rw [List.foldl_cons, ih fun a' ha' => hplace a' (List.mem_cons_of_mem a ha'), bitOf_or,
      bitOf_flagAt n (hplace a List.mem_cons_self), List.any_cons, Bool.or_assoc]

theorem bitOf_pendingSet (f : FaultFile) (n : Fin 8) : bitOf n.val f.pendingSet = f.records[n.val].isSome := by
  have hbits := bitOf_foldl_flagAt (fun i : Fin 8 => i.val) (fun i => f.records[i.val].isSome) n (List.finRange 8)
    (fun i _ => i.isLt) 0
  rw [FaultFile.pendingSet, hbits, Bool.eq_iff_iff]
  simp [bitOf, ← Fin.ext_iff]

/-- The third byte of a record's report is its branch and its tag, each with the code of an absent one (R180; log 28). -/
theorem bytes_eq (r : FaultRecord) :
    r.bytes =
      [r.kind.code, r.unit.getD 0,
        byteOf ((match r.branch with | some b => 32 * b.val | none => 224) +
          (match r.tag with | some t => 16 + t.val | none => 0)),
        r.detail, r.repeats] := by
  have hboth : ∀ (b : Branch) (t : Tag),
      byteOf b.val <<< 5 ||| (0x10 ||| byteOf t.val) = byteOf (32 * b.val + (16 + t.val)) := by decide
  have hbranch : ∀ b : Branch, byteOf b.val <<< 5 ||| 0x00 = byteOf (32 * b.val + 0) := by decide
  have htag : ∀ t : Tag, 0xE0 ||| (0x10 ||| byteOf t.val) = byteOf (224 + (16 + t.val)) := by decide
  have hneither : (0xE0 : Byte) ||| 0x00 = byteOf (224 + 0) := by decide
  obtain ⟨kind, unit, branch, tag, detail, repeats⟩ := r
  cases branch with
  | none =>
    cases tag with
    | none => simp only [FaultRecord.bytes, hneither]
    | some t => simp only [FaultRecord.bytes, htag]
  | some b =>
    cases tag with
    | none => simp only [FaultRecord.bytes, hbranch]
    | some t => simp only [FaultRecord.bytes, hboth]

theorem exec_faultRead (h : Ready s t 5 params) :
    exec .faultRead s = .next
      (if params = [] then answered t .accepted (faultReport s.frf) s else answered t .badParameter [] s) := by
  have ⟨hpowered, _, _, hunit, _⟩ := h
  rw [exec, execFaultRead, event_of_powered hpowered, whenCommand_of_ready h (by decide), withoutParameters_eq hunit,
    faultReadCommand, reply_eq_answered hunit]

/-! ## Clearing (R149) -/

/-- The clearing of one record; a free one stays free, and the first-pending index names it no more than before. -/
theorem clearOne_eq (f : FaultFile) (n : Fin 8) :
    f.clearOne n =
      { f with
        records := f.records.set n.val none
        firstPending :=
          if f.records[n.val].isSome = true ∧ f.firstPending = some n then none else f.firstPending } := by
  unfold FaultFile.clearOne
  split
  case isTrue hpending => simp only [hpending, true_and]
  case isFalse hfree =>
    have hnone : f.records[n.val] = none := by simpa using hfree
    have hset : f.records.set n.val none = f.records := by
      rw [← hnone]
      exact Vector.set_getElem_self ..
    simp [hset, hnone]

/-- The records that stay pending are those that were, but for the one cleared. -/
theorem pendingCount_clearOne (f : FaultFile) (n : Fin 8) :
    (f.clearOne n).pendingCount =
      ((List.finRange 8).filter fun i => i ≠ n && f.records[i.val].isSome).length := by
  rw [clearOne_eq, FaultFile.pendingCount]
  refine congrArg List.length (List.filter_congr fun i _ => ?_)
  rw [getElem_set_record]
  by_cases hin : i = n <;> simp [hin]

theorem clear_record (f : FaultFile) (n : Fin 8) : f.clear (byteOf n.val) = some (f.clearOne n) := by
  have hall : ∀ n : Fin 8, byteOf n.val ≠ 0xFF ∧ (byteOf n.val).toNat < 8 ∧ Fin.ofNat 8 (byteOf n.val).toNat = n := by
    decide
  obtain ⟨hne, hlt, hofNat⟩ := hall n
  rw [FaultFile.clear, if_neg hne, if_pos hlt, hofNat]

theorem clear_eq_none {f : FaultFile} {b : Byte} (hrecord : ∀ n : Fin 8, b ≠ byteOf n.val) (hall : b ≠ 0xFF) :
    f.clear b = none := by
  have hge : ¬ b.toNat < 8 := fun hlt => hrecord ⟨b.toNat, hlt⟩ (by simp [byteOf])
  rw [FaultFile.clear, if_neg hall, if_neg hge]

theorem exec_faultClear (h : Ready s t 6 params) : exec .faultClear s = .next (faultClearCommand t params s) := by
  have ⟨hpowered, _⟩ := h
  rw [exec, execFaultClear, event_of_powered hpowered, whenCommand_of_ready h (by decide)]

theorem faultClearCommand_of_accepted (hunit : (s.tag t).unit = 0) {b : Byte} {f : FaultFile}
    (h : s.frf.clear b = some f) :
    faultClearCommand t [b] s =
      answered t .accepted [byteOf f.pendingCount, flagByte f.overflow] { s with frf := f } := by
  have hclear : (if [b].length = 1 then s.frf.clear (byteAt [b] 0) else none) = some f := h
  rw [faultClearCommand, hclear]
  exact reply_eq_answered (s := { s with frf := f }) hunit ..

/-- Any other parameter list has another length, or names neither a record nor ALL. -/
theorem faultClearCommand_of_refused (hunit : (s.tag t).unit = 0) (hrecord : ∀ n : Fin 8, params ≠ [byteOf n.val])
    (hall : params ≠ [0xFF]) : faultClearCommand t params s = answered t .badParameter [] s := by
  have hclear : (if params.length = 1 then s.frf.clear (byteAt params 0) else none) = none := by
    match params with
    | [] => rfl
    | [b] => exact clear_eq_none (b := b) (fun n hb => hrecord n (by rw [hb])) fun hb => hall (by rw [hb])
    | _ :: _ :: _ => simp
  rw [faultClearCommand, hclear]
  exact reply_eq_answered hunit ..

end Sys2Proof.Machine

namespace Sys2Proof
open Sys2Proof.Machine

/-- Settles O5: the pending set of the report is the witness. -/
theorem faultReadAnswers : Obligations.FaultReadAnswers := by
  intro s t params hready
  rw [exec_faultRead hready]
  split
  case isFalse => rfl
  case isTrue =>
    refine ⟨s.frf.pendingSet, bitOf_pendingSet s.frf, ?_⟩
    have hfirst : (s.frf.firstPending.map fun i => byteOf i.val).getD 0xFF =
        match s.frf.firstPending with | some n => byteOf n.val | none => 0xFF := by
      cases s.frf.firstPending <;> rfl
    rw [faultReport, hfirst]
    refine congrArg (fun records => Host.Outcome.next (answered t .accepted (_ ++ records) s))
      (List.flatMap_congr fun n _ => ?_)
    cases s.frf.records[n.val] with
    | none => rfl
    | some r => exact bytes_eq r

/-- Settles O16: one record, ALL, and every other parameter list. -/
theorem faultClearFrees : Obligations.FaultClearFrees := by
  intro s t params hready
  have ⟨_, _, _, hunit, _⟩ := hready
  rw [exec_faultClear hready]
  refine ⟨fun n hparams => ?_, fun hparams => ?_, fun hrecord hall => ?_⟩
  · rw [hparams, faultClearCommand_of_accepted hunit (clear_record s.frf n), pendingCount_clearOne, clearOne_eq]
    rfl
  · rw [hparams, faultClearCommand_of_accepted hunit (f := FaultFile.reset) rfl]
    rfl
  · rw [faultClearCommand_of_refused hunit hrecord hall]

end Sys2Proof
end

section
/-!
COUNTERS-READ (O7) and the snapshots (O18): a group of the Snapshot Bank in the order of R150, and the two occasions on which the bank takes the live counters (R151, R152).
-/

namespace Sys2Proof.Machine

variable {s : State} {t : Tag} {params : List Byte}

/-! ## The report of a group (R152, R180) -/

/-- The first place of a group among the 38 counters (R150). -/
def groupFirst (g : Fin 6) : Nat := if g.val < 4 then 7 * g.val else if g.val = 4 then 28 else 33

/-- The number of counters in a group (R150). -/
def groupLength (g : Fin 6) : Nat := if g.val < 4 then 7 else 5

theorem counterGroup_byteOf (g : Fin 6) : counterGroup (byteOf g.val) = some (groupFirst g, groupLength g) := by
  decide +revert

/-- A group has at most seven counters, all among the 38. -/
theorem group_bounds (g : Fin 6) : groupLength g ≤ 7 ∧ groupFirst g + groupLength g ≤ 38 := by
  decide +revert

theorem counterGroup_eq_none {b : Byte} (h : ∀ g : Fin 6, b ≠ byteOf g.val) : counterGroup b = none := by
  have hge : ¬ b.toNat < 6 := fun hlt => h ⟨b.toNat, hlt⟩ (by simp [byteOf])
  have hfour : b ≠ 0x04 := h 4
  have hfive : b ≠ 0x05 := h 5
  rw [counterGroup, if_neg (by omega), if_neg hfour, if_neg hfive]

/-- The two bytes of a counter, high byte first (R176). -/
theorem bytesOfWord_eq (w : Word) : bytesOfWord w = [byteOf (w.toNat / 256), byteOf w.toNat] := by
  rw [← bytesOfWord_ofNat, BitVec.ofNat_toNat, BitVec.setWidth_eq]

/-- The saturation flags of a run of the bank as one byte, the first counter at bit 0 (R180). -/
def saturationByte (b : SnapshotBank) (first n : Nat) : Byte :=
  (List.range n).foldl (fun x i => x ||| flagAt i (((b.saturated.toList.drop first).take n).getD i false)) 0

theorem bitOf_saturationByte (b : SnapshotBank) {first n : Nat} (hn : n ≤ 8) {i : Fin 8} (hi : i.val < n) :
    bitOf i.val (saturationByte b first n) = b.saturated.toList.getD (first + i.val) false := by
  have hbits := bitOf_foldl_flagAt id (((b.saturated.toList.drop first).take n).getD · false) i (List.range n)
    (fun j hj => (List.mem_range.1 hj).trans_le hn) 0
  have hflag : ((b.saturated.toList.drop first).take n).getD i.val false =
      b.saturated.toList.getD (first + i.val) false := by
    simp [hi]
  rw [← hflag, saturationByte]
  refine hbits.trans (Bool.eq_iff_iff.2 ?_)
  simp [bitOf, hi]

/-- The report of a run of the bank: its flags, then its values, two bytes each. -/
theorem counterReport_eq (b : SnapshotBank) (g : Byte) {first n : Nat} (h : first + n ≤ 38) :
    counterReport b g first n =
      [g, b.number, saturationByte b first n] ++
        (List.range n).flatMap fun i =>
          [byteOf ((b.values.toList.getD (first + i) 0).toNat / 256),
            byteOf (b.values.toList.getD (first + i) 0).toNat] := by
  rw [counterReport, take_drop_eq_map_range b.values.toList 0 (by simpa using h), List.flatMap_map]
  simp only [bytesOfWord_eq, saturationByte]

theorem exec_countersRead (h : Ready s t 9 params) :
    exec .countersRead s = .next (countersReadCommand t params s) := by
  have ⟨hpowered, _⟩ := h
  rw [exec, execCountersRead, event_of_powered hpowered, whenCommand_of_ready h (by decide)]

theorem countersReadCommand_of_group (hunit : (s.tag t).unit = 0) (g : Fin 6) :
    countersReadCommand t [byteOf g.val] s =
      answered t .accepted (counterReport s.pm.bank (byteOf g.val) (groupFirst g) (groupLength g)) s := by
  have hgroup : (if [byteOf g.val].length = 1 then counterGroup (byteAt [byteOf g.val] 0) else none) =
      some (groupFirst g, groupLength g) := counterGroup_byteOf g
  rw [countersReadCommand, hgroup]
  exact reply_eq_answered hunit ..

/-- Any other parameter list has another length, or names no group. -/
theorem countersReadCommand_of_no_group (hunit : (s.tag t).unit = 0) (h : ∀ g : Fin 6, params ≠ [byteOf g.val]) :
    countersReadCommand t params s = answered t .badParameter [] s := by
  have hgroup : (if params.length = 1 then counterGroup (byteAt params 0) else none) = none := by
    match params with
    | [] => rfl
    | [b] => exact counterGroup_eq_none (b := b) fun g hb => h g (by rw [hb])
    | _ :: _ :: _ => simp
  rw [countersReadCommand, hgroup]
  exact reply_eq_answered hunit ..

/-! ## Snapshots (R151) -/

theorem exec_snapshot (h : Ready s t 10 params) :
    exec .snapshot s = .next
      (if params = [] then answered t .accepted [s.pm.bank.number + 1] { s with pm := s.pm.snapshot }
      else answered t .badParameter [] s) := by
  have ⟨hpowered, _, _, hunit, _⟩ := h
  have htaken := reply_eq_answered (t := t) (s := { s with pm := s.pm.snapshot }) hunit .accepted [s.pm.bank.number + 1]
  rw [exec, execSnapshot, event_of_powered hpowered, whenCommand_of_ready h (by decide), withoutParameters_eq hunit,
    snapshotCommand, htaken]

theorem exec_intervalTimerExpiry (hpowered : s.powered = true) (h : s.pm.interval = 0) :
    exec .intervalTimerExpiry s = .next (intervalExpiry s) := by
  rw [exec, execIntervalTimerExpiry, event_of_powered hpowered, if_pos h]

end Sys2Proof.Machine

namespace Sys2Proof
open Sys2Proof.Machine

/-- Settles O7: the saturation byte of the group is the witness. -/
theorem countersReadAnswers : Obligations.CountersReadAnswers := by
  intro s t params hready
  have ⟨_, _, _, hunit, _⟩ := hready
  rw [exec_countersRead hready]
  refine ⟨fun g hparams => ?_, fun hparams => ?_⟩
  · obtain ⟨hlength, hplaces⟩ := group_bounds g
    refine ⟨saturationByte s.pm.bank (groupFirst g) (groupLength g), fun i hi => ?_, ?_⟩
    · exact bitOf_saturationByte s.pm.bank (by omega) (i := ⟨i.val, by omega⟩) hi
    · rw [hparams, countersReadCommand_of_group hunit, counterReport_eq _ _ hplaces]
      rfl
  · rw [countersReadCommand_of_no_group hunit hparams]

/-- Settles O18: the command, then the expiry with and without auto-snapshot. -/
theorem snapshotsCopyTheCounters : Obligations.SnapshotsCopyTheCounters := by
  refine ⟨fun s t params hready => exec_snapshot hready, fun s hpowered hinterval => ?_⟩
  rw [exec_intervalTimerExpiry hpowered hinterval, intervalExpiry]
  split <;> rfl

end Sys2Proof
end

section
/-!
EVENTS and SET-EVENT-MASK (O15): the eight presences in the order of R179, and the mask (R153, R154).
-/

namespace Sys2Proof.Machine

variable {s : State} {t : Tag} {params : List Byte}

/-- Bit n of the presences is the n-th event source (R153, R179). -/
theorem bitOf_presences (s : State) (n : Fin 8) :
    bitOf n.val (presences s) =
      [faultPending s, faultOverflow s, changePending s, iqError s, s.es.fenceNotify, s.es.storeDone, s.es.portShut,
        s.es.counterSaturated].getD n.val false := by
  simp (disch := decide) only [presences, bitOf_or, bitOf_flagAt]
  fin_cases n <;> simp

/-- FAULT-PENDING is present when some record is pending (R147). -/
theorem faultPending_iff (s : State) : faultPending s = true ↔ ∃ n : Fin 8, s.frf.records[n.val].isSome = true := by
  simp [faultPending, FaultFile.anyPending]

/-- CHANGE-PENDING is present when the Change List is not empty or has overflowed (R102). -/
theorem changePending_iff (s : State) : changePending s = true ↔ s.ust.changes ≠ [] ∨ s.ust.overflow = true := by
  simp [changePending]

theorem iqError_iff (s : State) : iqError s = true ↔ s.iqe.state = .error := by simp [iqError]

theorem exec_events (h : Ready s t 3 params) :
    exec .events s = .next
      (if params = [] then answered t .accepted [presences s, s.es.mask] (clearLatches s)
      else answered t .badParameter [] s) := by
  have ⟨hpowered, _, _, hunit, _⟩ := h
  have hcleared := reply_eq_answered (t := t) (s := clearLatches s) hunit .accepted [presences s, s.es.mask]
  rw [exec, execEvents, event_of_powered hpowered, whenCommand_of_ready h (by decide), withoutParameters_eq hunit,
    eventsCommand, hcleared]

theorem exec_setEventMask (h : Ready s t 4 params) :
    exec .setEventMask s = .next (setEventMaskCommand t params s) := by
  have ⟨hpowered, _⟩ := h
  rw [exec, execSetEventMask, event_of_powered hpowered, whenCommand_of_ready h (by decide)]

theorem setEventMaskCommand_of_mask (hunit : (s.tag t).unit = 0) (m : Byte) :
    setEventMaskCommand t [m] s = answered t .accepted [m] { s with es := { s.es with mask := m } } :=
  reply_eq_answered (s := { s with es := { s.es with mask := m } }) hunit _ _

theorem setEventMaskCommand_of_refused (hunit : (s.tag t).unit = 0) (h : params.length ≠ 1) :
    setEventMaskCommand t params s = answered t .badParameter [] s := by
  rw [setEventMaskCommand, if_pos (by simpa using h), reply_eq_answered hunit]

end Sys2Proof.Machine

namespace Sys2Proof
open Sys2Proof.Machine

/-- Settles O15: the presences are the witness, bit by bit; the mask by the number of parameters. -/
theorem eventsAndTheMask : Obligations.EventsAndTheMask := by
  refine ⟨fun s t params hready => ?_, fun s t params hready => ?_⟩
  · rw [exec_events hready]
    split
    case isFalse => rfl
    case isTrue =>
      have hbit := bitOf_presences s
      have hfault : bitOf 0 (presences s) = faultPending s := hbit 0
      have hchange : bitOf 2 (presences s) = changePending s := hbit 2
      have herror : bitOf 3 (presences s) = iqError s := hbit 3
      exact ⟨presences s, hfault ▸ faultPending_iff s, hbit 1, hchange ▸ changePending_iff s, herror ▸ iqError_iff s,
        hbit 4, hbit 5, hbit 6, hbit 7, rfl⟩
  · have ⟨_, _, _, hunit, _⟩ := hready
    rw [exec_setEventMask hready]
    split
    case h_1 m => rw [setEventMaskCommand_of_mask hunit]
    case h_2 hparams =>
      have hlength : params.length ≠ 1 := fun h => by
        obtain ⟨m, hm⟩ := List.length_eq_one_iff.1 h
        exact hparams m hm
      rw [setEventMaskCommand_of_refused hunit hlength]

end Sys2Proof
end

section
/-!
What the capacities and the rules of the Trunk Port speak of (O54), and how the shared operations change it.
-/

namespace Sys2Proof.Machine

/-- The Trunk Port but for its replies and its transmitter, and the lengths of the queues of the other blocks. -/
structure Occupancy where
  line : TrunkPort
  branch : Branch → Nat
  management : Nat
  invalidation : Nat

/-- The occupancy of a state. -/
def State.occupancy (s : State) : Occupancy where
  line := { s.tp with replies := [], transmitter := none }
  branch b := (s.port b).queue.length
  management := s.mu.queue.length
  invalidation := s.iqe.queue.length

/-- The queues other than the Change List are within their capacities (R157, R71, R164, R107). -/
structure Occupancy.Within (o : Occupancy) : Prop where
  intake : o.line.intake.length ≤ Config.intakeCapacity
  branch : ∀ b, o.branch b ≤ Config.branchQueueCapacity
  management : o.management ≤ Config.managementCapacity
  invalidation : o.invalidation ≤ Config.invalidationCapacity

/-- From the one occupancy to the other, the queues stay within their capacities and the trunk line within its rules. -/
structure Occupancy.Keeps (o p : Occupancy) : Prop where
  within : o.Within → p.Within
  sound : TrunkSound o.line → TrunkSound p.line

theorem withinCapacity_iff (s : State) :
    WithinCapacity s ↔ s.occupancy.Within ∧ s.ust.changes.length ≤ Config.changeListCapacity :=
  ⟨fun ⟨hintake, hbranch, hmanagement, hinvalidation, hchanges⟩ =>
      ⟨⟨hintake, hbranch, hmanagement, hinvalidation⟩, hchanges⟩,
    fun ⟨⟨hintake, hbranch, hmanagement, hinvalidation⟩, hchanges⟩ =>
      ⟨hintake, hbranch, hmanagement, hinvalidation, hchanges⟩⟩

/-- The rules of the trunk line do not speak of the replies and the transmitter. -/
theorem trunkSound_line (s : State) : TrunkSound s.occupancy.line ↔ TrunkSound s.tp := Iff.rfl

namespace Occupancy.Keeps

variable {o : Occupancy} {s s' : State}

theorem refl (o : Occupancy) : o.Keeps o := ⟨id, id⟩

theorem of_eq (h : o.Keeps s.occupancy) (hs' : s'.occupancy = s.occupancy) : o.Keeps s'.occupancy := hs' ▸ h

/-- A change that leaves the line and lets no queue grow but within its capacity. -/
theorem of_le (h : o.Keeps s.occupancy) (hline : s'.occupancy.line = s.occupancy.line)
    (hbranch : ∀ b, (s'.port b).queue.length ≤ max (s.port b).queue.length Config.branchQueueCapacity)
    (hmanagement : s'.mu.queue.length ≤ max s.mu.queue.length Config.managementCapacity)
    (hinvalidation : s'.iqe.queue.length ≤ max s.iqe.queue.length Config.invalidationCapacity) :
    o.Keeps s'.occupancy where
  within ho := by
    obtain ⟨hintake, hb, hm, hi⟩ := h.within ho
    exact ⟨hline ▸ hintake, fun b => (hbranch b).trans (max_le (hb b) le_rfl), hmanagement.trans (max_le hm le_rfl),
      hinvalidation.trans (max_le hi le_rfl)⟩
  sound ho := hline ▸ h.sound ho

/-- A change of the Trunk Port that keeps its rules and the Intake Queue within its capacity. -/
theorem of_line {t : TrunkPort} (h : o.Keeps s.occupancy)
    (hintake : t.intake.length ≤ max s.tp.intake.length Config.intakeCapacity)
    (hsound : TrunkSound s.tp → TrunkSound t) : o.Keeps { s with tp := t }.occupancy where
  within ho := by
    obtain ⟨hi, hbranch, hmanagement, hinvalidation⟩ := h.within ho
    exact ⟨hintake.trans (max_le hi le_rfl), hbranch, hmanagement, hinvalidation⟩
  sound ho := hsound (h.sound ho)

/-- A port whose queue does not grow but within its capacity. -/
theorem setPort (h : o.Keeps s.occupancy) {b : Branch} {p : BranchPort}
    (hp : p.queue.length ≤ max (s.port b).queue.length Config.branchQueueCapacity) :
    o.Keeps (s.setPort b p).occupancy := by
  refine h.of_le rfl (fun d => ?_) (le_max_left ..) (le_max_left ..)
  rw [port_setPort]
  split
  case isTrue hd => exact hd ▸ hp
  case isFalse => exact le_max_left ..

/-- A fold whose every step keeps. -/
theorem foldl {α : Type} {f : State → α → State} (h : o.Keeps s.occupancy)
    (hf : ∀ s x, o.Keeps s.occupancy → o.Keeps (f s x).occupancy) (l : List α) : o.Keeps (l.foldl f s).occupancy :=
  foldl_invariant f (fun s => o.Keeps s.occupancy) hf l s h

end Occupancy.Keeps

/-! ## Operations that leave the occupancy as it was -/

theorem occupancy_of_blocks {s s' : State} (htp : s'.tp = s.tp) (hports : s'.ports = s.ports) (hmu : s'.mu = s.mu)
    (hiqe : s'.iqe = s.iqe) : s'.occupancy = s.occupancy := by
  simp only [State.occupancy, State.port, htp, hports, hmu, hiqe]

theorem occupancy_judgeFill (i : SlotNo) (unit : Byte) (s : State) : (judgeFill i unit s).occupancy = s.occupancy := by
  apply occupancy_of_blocks <;> simp

theorem occupancy_rejudgeFills (s : State) : (rejudgeFills s).occupancy = s.occupancy := by
  apply occupancy_of_blocks <;> simp

theorem occupancy_settle (s : State) : (settle s).occupancy = s.occupancy := by apply occupancy_of_blocks <;> simp

theorem occupancy_takeReference (i : SlotNo) (s : State) : (takeReference i s).occupancy = s.occupancy := by
  apply occupancy_of_blocks <;> simp

theorem occupancy_recordEndFault (t : Tag) (o : OutcomeCode) (s : State) :
    (recordEndFault t o s).occupancy = s.occupancy := by apply occupancy_of_blocks <;> simp

/-- The end of a transaction appends a response and changes no other queue (R20). -/
theorem occupancy_endTransaction (t : Tag) (o : OutcomeCode) (status : Option Byte) (watch : Bool) (payload : List Byte)
    (s : State) : (endTransaction t o status watch payload s).occupancy = s.occupancy :=
  have hupdate : (statusUpdate t o status watch s).occupancy = s.occupancy := by apply occupancy_of_blocks <;> simp
  hupdate

theorem occupancy_endPlain (t : Tag) (o : OutcomeCode) (s : State) : (endPlain t o s).occupancy = s.occupancy :=
  occupancy_endTransaction ..

theorem occupancy_endWaiters (o : OutcomeCode) (waiters : List Tag) (s : State) :
    (endWaiters o waiters s).occupancy = s.occupancy :=
  foldl_keeps _ State.occupancy (fun s t => occupancy_endPlain t o s) _ _

theorem occupancy_fillFault (k : FaultKind) (unit : Byte) (waiters : List Tag) (s : State) :
    (fillFault k unit waiters s).occupancy = s.occupancy := by apply occupancy_of_blocks <;> simp

theorem occupancy_decideBroadcast (t : Tag) (s : State) : (decideBroadcast t s).occupancy = s.occupancy := by
  unfold decideBroadcast
  dsimp only
  split
  · rfl
  · split
    · split
      · exact occupancy_endTransaction ..
      · exact occupancy_endPlain ..
    · exact occupancy_endPlain ..

theorem occupancy_endMember (t : Tag) (b : Branch) (succeeded : Bool) (s : State) :
    (endMember t b succeeded s).occupancy = s.occupancy := occupancy_decideBroadcast ..

theorem occupancy_refuse (t : Tag) (o : OutcomeCode) (s : State) : (refuse t o s).occupancy = s.occupancy :=
  occupancy_endPlain ..

theorem occupancy_refuseIllegal (t : Tag) (channel : Nat) (s : State) :
    (refuseIllegal t channel s).occupancy = s.occupancy := occupancy_refuse ..

theorem occupancy_answerLocally (t : Tag) (route : Route) (s : State) :
    (answerLocally t route s).occupancy = s.occupancy := by
  unfold answerLocally
  exact occupancy_endTransaction ..

/-- An attempt begins from the port as it stands; its queue is not touched (R75). -/
theorem occupancy_setPort_of_queue {s : State} {b : Branch} {p : BranchPort} (h : p.queue = (s.port b).queue) :
    (s.setPort b p).occupancy = s.occupancy := by
  have hbranch : (fun d => ((s.setPort b p).port d).queue.length) = fun d => (s.port d).queue.length := by
    funext d
    rw [port_setPort]
    split
    case isTrue hd => rw [h, hd]
    case isFalse => rfl
  exact congrArg (fun f => { s.occupancy with branch := f }) hbranch

theorem occupancy_beginAttempt (b : Branch) (x : Exchange) (s : State) :
    (beginAttempt b x s).occupancy = s.occupancy := occupancy_setPort_of_queue (s := s) (b := b) rfl

theorem occupancy_stopTimer (b : Branch) (s : State) : (stopTimer b s).occupancy = s.occupancy :=
  occupancy_setPort_of_queue rfl

theorem occupancy_performInvalidation (d : Descriptor) (s : State) :
    (performInvalidation d s).occupancy = s.occupancy := by apply occupancy_of_blocks <;> simp

end Sys2Proof.Machine
end

section
/-!
The shared operations keep the capacities and the rules of the trunk line (O54): a queue grows only where the rules have asked for room (R12, R15, R7), and a report of a drained cache takes a FENCE from the Invalidation Queue (R116). A hypothesis written `by exact h` speaks of an earlier state whose occupancy is the same by definition.
-/

namespace Sys2Proof.Machine

variable {o : Occupancy} {s : State}

/-! ## References and fences (R40, R41, R116) -/

theorem keeps_completeFence (h : o.Keeps s.occupancy) : o.Keeps (completeFence s).occupancy := by
  refine h.of_le (by simp [State.occupancy]) (fun b => by simp [State.port]) (by simp) ?_
  unfold completeFence
  split
  · exact le_max_left ..
  case h_2 hqueue => simp [latchFenceNotify, hqueue]

theorem keeps_drainReport (h : o.Keeps s.occupancy) : o.Keeps (drainReport s).occupancy := by
  unfold drainReport
  split
  · exact keeps_completeFence h
  · exact h

theorem keeps_releaseSlot (h : o.Keeps s.occupancy) (slot : Option SlotNo) : o.Keeps (releaseSlot slot s).occupancy := by
  unfold releaseSlot
  split
  case h_1 =>
    unfold releaseReference
    split
    · exact h
    · split
      · exact keeps_drainReport (by exact h)
      · exact h
    · exact h
  case h_2 => exact h

/-! ## The policy check (R11 to R16) -/

theorem keeps_enterQueue (h : o.Keeps s.occupancy) (t : Tag) (i : SlotNo) {b : Branch}
    (hroom : (s.port b).queue.length < Config.branchQueueCapacity) : o.Keeps (enterQueue t i b s).occupancy := by
  have hport : ∀ r, (takeReference i (s.setTag t r)).port b = s.port b := fun r => by simp [State.port]
  unfold enterQueue
  dsimp only
  refine Occupancy.Keeps.setPort (h.of_eq (occupancy_takeReference i (s.setTag t _))) ?_
  rw [hport, List.length_append]
  exact (Nat.succ_le_of_lt hroom).trans (le_max_right ..)

theorem keeps_portChecks (h : o.Keeps s.occupancy) (t : Tag) (i : SlotNo) (b : Branch) :
    o.Keeps (portChecks t i b s).occupancy := by
  unfold portChecks
  split
  · exact h.of_eq (occupancy_endPlain ..)
  · split
    · exact h.of_eq (occupancy_endPlain ..)
    case isFalse hroom => exact keeps_enterQueue h t i (not_le.1 hroom)

theorem keeps_actionChecks (h : o.Keeps s.occupancy) (t : Tag) (i : SlotNo) (route : Route) :
    o.Keeps (actionChecks t i route s).occupancy := by
  unfold actionChecks
  dsimp only
  split
  · exact h.of_eq (occupancy_refuseIllegal ..)
  · split
    · exact h.of_eq (occupancy_refuseIllegal ..)
    · exact h.of_eq (occupancy_refuse ..)
    · exact h.of_eq (occupancy_answerLocally ..)
    · exact keeps_portChecks h ..

theorem keeps_unitPolicyCheck (h : o.Keeps s.occupancy) (t : Tag) (i : SlotNo) (route : Route) :
    o.Keeps (unitPolicyCheck t i route s).occupancy := by
  unfold unitPolicyCheck judgeUnitRequest
  dsimp only
  split
  · exact h
  · split
    · exact h.of_eq (occupancy_refuse ..)
    · exact h.of_eq (occupancy_answerLocally ..)
    · exact keeps_actionChecks (by exact h) ..

/-- A fan-out puts a member into a queue that has room (R15). -/
theorem keeps_fanOut (h : o.Keeps s.occupancy) (t : Tag) : o.Keeps (fanOut t s).occupancy := by
  rw [fanOut_eq, occupancy_decideBroadcast]
  refine h.of_le rfl (fun b => ?_) (le_max_left ..) (le_max_left ..)
  rw [port_fanned, fannedPort]
  split
  case isTrue hroom =>
    rw [List.length_append]
    exact (Nat.succ_le_of_lt hroom.2).trans (le_max_right ..)
  case isFalse => exact le_max_left ..

theorem keeps_broadcastPolicyCheck (h : o.Keeps s.occupancy) (t : Tag) :
    o.Keeps (broadcastPolicyCheck t s).occupancy := by
  unfold broadcastPolicyCheck judgeBroadcast
  dsimp only
  split
  · exact h
  · split
    · exact h.of_eq (occupancy_refuseIllegal ..)
    · exact h.of_eq (occupancy_refuse ..)
    · exact h.of_eq (occupancy_endPlain ..)
    · exact keeps_fanOut h t

/-! ## Lookups and dispatches (R4 to R10, R29 to R32) -/

theorem keeps_lookupMiss (h : o.Keeps s.occupancy) (t : Tag) (unit : Byte) : o.Keeps (lookupMiss t unit s).occupancy := by
  unfold lookupMiss
  split
  · exact h
  case h_2 i _ =>
    have hfilled : o.Keeps (judgeFill i unit (count (.bridge .cacheMisses) (claimSlot t i unit s))).occupancy :=
      h.of_eq (occupancy_judgeFill ..)
    dsimp only
    split
    · exact keeps_drainReport hfilled
    · exact hfilled

theorem keeps_lookup (h : o.Keeps s.occupancy) (t : Tag) : o.Keeps (lookup t s).occupancy := by
  unfold lookup
  dsimp only
  split
  · exact keeps_lookupMiss h ..
  · split
    · exact keeps_unitPolicyCheck (by exact h) ..
    · exact h
    · exact h

/-- A management request joins a queue that has room (R7). -/
theorem keeps_managementRequest (h : o.Keeps s.occupancy) (r : RequestFrame) :
    o.Keeps (managementRequest r s).occupancy := by
  unfold managementRequest
  split
  · exact h.of_eq (occupancy_endPlain ..)
  · split
    · exact h.of_eq (occupancy_endPlain ..)
    case isFalse hroom =>
      refine h.of_le rfl (fun b => le_max_left ..) ?_ (le_max_left ..)
      rw [List.length_append]
      exact (Nat.succ_le_of_lt (not_le.1 hroom)).trans (le_max_right ..)

theorem keeps_classify (h : o.Keeps s.occupancy) (r : RequestFrame) : o.Keeps (classify r s).occupancy := by
  unfold classify
  split
  · exact keeps_managementRequest h r
  · split
    · exact keeps_broadcastPolicyCheck h _
    · split
      · exact h.of_eq (occupancy_endTransaction ..)
      · exact keeps_lookup h _

theorem keeps_dispatchFrame (h : o.Keeps s.occupancy) (r : RequestFrame) : o.Keeps (dispatchFrame r s).occupancy := by
  unfold dispatchFrame
  split
  · exact h
  · split
    · exact h.of_eq (occupancy_endPlain r.tag .badRequest (fillRecord r s))
    · exact keeps_classify (by exact h) r

/-! ## Fills and releases (R35 to R39, R61) -/

theorem keeps_fillWithout (h : o.Keeps s.occupancy) (k : FaultKind) (i : SlotNo) (unit : Byte) (waiters : List Tag) :
    o.Keeps (fillWithout k i unit waiters s).occupancy := by
  have hfault : o.Keeps (fillFault k unit waiters (s.setSlot i .empty)).occupancy := h.of_eq (occupancy_fillFault ..)
  exact hfault.of_eq (occupancy_endWaiters ..)

theorem keeps_fillMarked (h : o.Keeps s.occupancy) (i : SlotNo) (unit : Byte) (waiters : List Tag) :
    o.Keeps (fillMarked i unit waiters s).occupancy := by
  unfold fillMarked
  split
  · exact keeps_drainReport (by exact h)
  · exact keeps_drainReport (h.of_eq (occupancy_judgeFill ..))

theorem keeps_fillResult (h : o.Keeps s.occupancy) (i : SlotNo) (bytes : List Byte) :
    o.Keeps (fillResult i bytes s).occupancy := by
  unfold fillResult
  split
  · exact keeps_fillMarked h ..
  · split
    · exact Occupancy.Keeps.foldl (by exact h) (fun _ _ hs => keeps_unitPolicyCheck hs ..) _
    · exact keeps_fillWithout h ..
    · exact keeps_fillWithout h ..
  · exact h

theorem keeps_fillRefused (h : o.Keeps s.occupancy) (i : SlotNo) : o.Keeps (fillRefused i s).occupancy := by
  unfold fillRefused
  split
  case h_1 waiters _ =>
    have hended : o.Keeps (endWaiters .storeBusy waiters (s.setSlot i .empty)).occupancy :=
      h.of_eq (occupancy_endWaiters ..)
    dsimp only
    split
    · exact keeps_drainReport hended
    · exact hended
  case h_2 => exact h

theorem keeps_release (h : o.Keeps s.occupancy) (t : Tag) : o.Keeps (release s t).occupancy := by
  unfold release
  split
  · exact keeps_broadcastPolicyCheck h t
  · exact keeps_lookup (by exact h) t

theorem keeps_chunkArrived (h : o.Keeps s.occupancy) (k : Fin 32) (bad : Nat) (bytes : List Byte) :
    o.Keeps (chunkArrived k bad bytes s).occupancy := by
  unfold chunkArrived
  dsimp only
  split
  · exact Occupancy.Keeps.foldl (by exact h) (fun _ _ hs => keeps_release hs _) _
  · exact h

/-! ## Ends at a branch port (R17, R70, R77, R78) -/

theorem keeps_endUnit (h : o.Keeps s.occupancy) (t : Tag) (cause : EndCause) (status : Option Byte) :
    o.Keeps (endUnit t cause status s).occupancy := by
  have hreleased : o.Keeps (releaseSlot (s.tag t).slot (s.setTag t { s.tag t with slot := none })).occupancy :=
    keeps_releaseSlot (by exact h) _
  exact hreleased.of_eq ((occupancy_endTransaction ..).trans (occupancy_recordEndFault ..))

theorem keeps_dropQueue (h : o.Keeps s.occupancy) (b : Branch) : o.Keeps (dropQueue b s).occupancy := by
  refine Occupancy.Keeps.foldl (h.setPort (Nat.zero_le _)) (fun s e hs => ?_) _
  unfold dropEntry
  split
  · exact keeps_endUnit hs ..
  · exact hs.of_eq (occupancy_endMember ..)

theorem keeps_endExchange (h : o.Keeps s.occupancy) (b : Branch) (x : Exchange) (cause : EndCause) (succeeded : Bool)
    (status : Option Byte) : o.Keeps (endExchange b x cause succeeded status s).occupancy := by
  have hreported : o.Keeps (reportEnd b x cause succeeded status s).occupancy := by
    unfold reportEnd
    split
    · exact keeps_endUnit h ..
    · exact h.of_eq (occupancy_endMember ..)
    · exact keeps_releaseSlot h _
  exact hreported.of_eq (occupancy_setPort_of_queue rfl)

theorem keeps_failAttempt (h : o.Keeps s.occupancy) (b : Branch) (x : Exchange) (cause : EndCause) :
    o.Keeps (failAttempt b x cause s).occupancy := by
  unfold failAttempt
  split
  · exact keeps_endExchange h ..
  · split
    · exact keeps_endExchange h ..
    · split
      · exact keeps_endExchange h ..
      · exact h.of_eq (occupancy_beginAttempt b x (count _ s))

theorem keeps_takeEntry (h : o.Keeps s.occupancy) {b : Branch} (e : QueueEntry) {rest : List QueueEntry}
    (hrest : rest.length ≤ (s.port b).queue.length) : o.Keeps (takeEntry b e rest s).occupancy := by
  unfold takeEntry
  split
  · exact h
  · exact Occupancy.Keeps.of_eq (Occupancy.Keeps.setPort (s := s.setTag _ _) (by exact h) (hrest.trans (le_max_left ..)))
      (occupancy_beginAttempt ..)

theorem keeps_shutDown (h : o.Keeps s.occupancy) (b : Branch) (detail : Byte) :
    o.Keeps (shutDown b detail s).occupancy := by
  have hshut : o.Keeps (s.setPort b { s.port b with state := .shutDown }).occupancy :=
    h.of_eq (occupancy_setPort_of_queue rfl)
  unfold shutDown
  dsimp only
  refine keeps_dropQueue ?_ b
  split
  · exact keeps_endExchange hshut ..
  · exact hshut

/-! ## Events of a port (R79 to R87) -/

theorem keeps_goodEcho (h : o.Keeps s.occupancy) (b : Branch) (x : Exchange) : o.Keeps (goodEcho b x s).occupancy := by
  have hheard : o.Keeps (s.setPort b { s.port b with watchdog := none, echoFaults := 0 }).occupancy :=
    h.of_eq (occupancy_setPort_of_queue rfl)
  unfold goodEcho
  dsimp only
  split
  · exact keeps_endExchange hheard ..
  · exact hheard.of_eq (occupancy_setPort_of_queue rfl)

theorem keeps_faultyEcho (h : o.Keeps s.occupancy) (b : Branch) (x : Exchange) :
    o.Keeps (faultyEcho b x s).occupancy := by
  have hheard : o.Keeps
      (s.setPort b { s.port b with watchdog := none, echoFaults := (s.port b).echoFaults + 1 }).occupancy :=
    h.of_eq (occupancy_setPort_of_queue rfl)
  unfold faultyEcho
  dsimp only
  split
  · exact keeps_shutDown (by exact hheard) ..
  · exact keeps_failAttempt (by exact hheard) ..

theorem keeps_hearReply (h : o.Keeps s.occupancy) (b : Branch) (x : Exchange) (heard : Heard) :
    o.Keeps (hearReply b x heard s).occupancy := by
  have hcounted : ∀ c, o.Keeps (count c (stopTimer b s)).occupancy := fun c => h.of_eq (occupancy_stopTimer b s)
  unfold hearReply
  split
  · exact keeps_endExchange (hcounted _) ..
  · exact h
  · exact keeps_failAttempt (hcounted _) ..

/-! ## CANCEL (R18) -/

theorem keeps_dropReference (h : o.Keeps s.occupancy) (t : Tag) : o.Keeps (dropReference t s).occupancy :=
  keeps_releaseSlot (by exact h) _

theorem keeps_leaveQueue (h : o.Keeps s.occupancy) (t : Tag) : o.Keeps (leaveQueue t s).occupancy := by
  unfold leaveQueue
  split
  · exact h.setPort ((List.length_filter_le ..).trans (le_max_left ..))
  · exact h

theorem keeps_cancelTransaction (h : o.Keeps s.occupancy) (t : Tag) :
    o.Keeps (cancelTransaction t s).2.occupancy := by
  have hwaiters : o.Keeps (leaveWaiters t s).occupancy := h.of_eq (by apply occupancy_of_blocks <;> simp)
  have hheld : o.Keeps (leaveHeld t s).occupancy := h
  unfold cancelTransaction
  split <;> dsimp only
  · exact hwaiters.of_eq (occupancy_endPlain ..)
  · exact hheld.of_eq (occupancy_endPlain ..)
  · exact (keeps_dropReference (keeps_leaveQueue h t) t).of_eq (occupancy_endPlain ..)
  · exact h
  · exact h

end Sys2Proof.Machine
end

section
/-!
The management commands keep the capacities and the rules of the trunk line (O54): a reply takes its request from the Management Queue (R165), and descriptors join the Invalidation Queue while it has room (R108).
-/

namespace Sys2Proof.Machine

variable {o : Occupancy} {s : State}

theorem keeps_dropManagementHead (h : o.Keeps s.occupancy) : o.Keeps (dropManagementHead s).occupancy := by
  refine h.of_le rfl (fun b => le_max_left ..) ?_ (le_max_left ..)
  rw [mu_dropManagementHead, List.length_tail]
  exact (Nat.sub_le ..).trans (le_max_left ..)

theorem keeps_reply (h : o.Keeps s.occupancy) (t : Tag) (result : ResultCode) (data : List Byte) :
    o.Keeps (reply t result data s).occupancy := keeps_dropManagementHead (h.of_eq (occupancy_endTransaction ..))

theorem keeps_settle (h : o.Keeps s.occupancy) : o.Keeps (settle s).occupancy := h.of_eq (occupancy_settle s)

/-! ## The commands that answer at once -/

theorem keeps_setConfigCommand (h : o.Keeps s.occupancy) (t : Tag) (params : List Byte) :
    o.Keeps (setConfigCommand t params s).occupancy := by
  unfold setConfigCommand
  split <;> exact keeps_reply (by exact h) ..

theorem keeps_setEventMaskCommand (h : o.Keeps s.occupancy) (t : Tag) (params : List Byte) :
    o.Keeps (setEventMaskCommand t params s).occupancy := by
  unfold setEventMaskCommand
  split <;> exact keeps_reply (by exact h) ..

theorem keeps_faultClearCommand (h : o.Keeps s.occupancy) (t : Tag) (params : List Byte) :
    o.Keeps (faultClearCommand t params s).occupancy := by
  unfold faultClearCommand
  split <;> exact keeps_reply (by exact h) ..

theorem keeps_unitStatusReadCommand (h : o.Keeps s.occupancy) (t : Tag) (params : List Byte) :
    o.Keeps (unitStatusReadCommand t params s).occupancy := by
  unfold unitStatusReadCommand
  dsimp only
  split <;> exact keeps_reply h ..

theorem keeps_countersReadCommand (h : o.Keeps s.occupancy) (t : Tag) (params : List Byte) :
    o.Keeps (countersReadCommand t params s).occupancy := by
  unfold countersReadCommand
  split <;> exact keeps_reply h ..

theorem keeps_cacheReadCommand (h : o.Keeps s.occupancy) (t : Tag) (params : List Byte) :
    o.Keeps (cacheReadCommand t params s).occupancy := by
  unfold cacheReadCommand
  split <;> exact keeps_reply h ..

/-! ## The Invalidation Queue (R108, R119) -/

/-- The descriptors of an accepted command find room in the queue (R108). -/
theorem keeps_queueInvalidationCommand (h : o.Keeps s.occupancy) (t : Tag) (params : List Byte) :
    o.Keeps (queueInvalidationCommand t params s).occupancy := by
  unfold queueInvalidationCommand
  dsimp only
  split
  · exact keeps_reply h ..
  · split
    · exact keeps_reply h ..
    case isFalse hroom =>
      refine keeps_reply ?_ ..
      refine h.of_le rfl (fun b => le_max_left ..) (le_max_left ..) ?_
      rw [InvalidationEngine.append, List.length_append, length_numberDescriptors]
      omega

theorem keeps_iqRecoverCommand (h : o.Keeps s.occupancy) (t : Tag) : o.Keeps (iqRecoverCommand t s).occupancy := by
  unfold iqRecoverCommand
  split
  · refine keeps_reply ?_ ..
    refine h.of_le rfl (fun b => le_max_left ..) (le_max_left ..) ?_
    rw [InvalidationEngine.discardHead, List.length_tail]
    exact (Nat.sub_le ..).trans (le_max_left ..)
  · exact keeps_reply h ..

theorem keeps_processHead (h : o.Keeps s.occupancy) (d : Descriptor) : o.Keeps (processHead d s).occupancy := by
  unfold processHead
  split
  · exact h
  · split
    · unfold performFence
      split
      · exact keeps_completeFence h
      · exact h
    · refine (h.of_eq (occupancy_performInvalidation d s)).of_le rfl (fun b => le_max_left ..) (le_max_left ..) ?_
      rw [completeDescriptor, List.length_tail]
      exact (Nat.sub_le ..).trans (le_max_left ..)

/-! ## The Table Store and the policy (R58, R127 to R141) -/

theorem keeps_writeEnableCommand (h : o.Keeps s.occupancy) (t : Tag) : o.Keeps (writeEnableCommand t s).occupancy := by
  unfold writeEnableCommand
  split <;> exact keeps_reply (by exact h) ..

theorem keeps_operationCommand (h : o.Keeps s.occupancy) (t : Tag) (operation : StoreOp) (refuses : Bool) :
    o.Keeps (operationCommand t operation refuses s).occupancy := by
  have hstart : (startOperation operation s).occupancy = s.occupancy := by apply occupancy_of_blocks <;> simp
  unfold operationCommand
  split
  · exact keeps_settle (keeps_reply (h.of_eq hstart) ..)
  · exact keeps_reply (by exact h) ..
  · exact keeps_reply h ..

theorem keeps_programCommand (h : o.Keeps s.occupancy) (t : Tag) (params : List Byte) :
    o.Keeps (programCommand t params s).occupancy := by
  unfold programCommand
  split
  · exact keeps_reply h ..
  · exact keeps_operationCommand h ..

theorem keeps_eraseCommand (h : o.Keeps s.occupancy) (t : Tag) (params : List Byte) :
    o.Keeps (eraseCommand t params s).occupancy := by
  unfold eraseCommand
  split
  · exact keeps_reply h ..
  · exact keeps_operationCommand h ..

theorem keeps_resumeCommand (h : o.Keeps s.occupancy) (t : Tag) : o.Keeps (resumeCommand t s).occupancy := by
  have hresume : (resume s).occupancy = s.occupancy := by apply occupancy_of_blocks <;> simp
  unfold resumeCommand
  split
  · exact keeps_settle (keeps_reply (h.of_eq hresume) ..)
  · exact keeps_reply h ..

theorem keeps_protectCommand (h : o.Keeps s.occupancy) (t : Tag) (params : List Byte) :
    o.Keeps (protectCommand t params s).occupancy := by
  unfold protectCommand
  split
  · exact keeps_reply h ..
  · split
    · exact keeps_reply h ..
    · split <;> exact keeps_reply (by exact h) ..

theorem keeps_startActivation (h : o.Keeps s.occupancy) (t : Tag) : o.Keeps (startActivation t s).occupancy := by
  unfold startActivation
  split
  · exact keeps_reply h ..
  · exact keeps_settle (keeps_reply (by exact h) ..)

/-- ACTIVATE-POLICY executed by the row of one mode (R64). -/
theorem keeps_activatePolicy (h : o.Keeps s.occupancy) {mode : ActivationMode} {body : Tag → State → State}
    (hbody : ∀ t, o.Keeps (body t s).occupancy) (t : Tag) (params : List Byte) :
    o.Keeps (activatePolicy mode body t params s).occupancy := by
  unfold activatePolicy
  split
  · split
    · exact hbody t
    · exact h
  · exact keeps_reply h ..

/-- The request that begins to execute keeps its place at the head of the Management Queue (R164). -/
theorem keeps_markExecuting (h : o.Keeps s.occupancy) (t : Tag) : o.Keeps (markExecuting t s).occupancy := by
  refine h.of_le rfl (fun b => le_max_left ..) ?_ (le_max_left ..)
  rw [markExecuting, List.length_cons, List.length_tail, Config.managementCapacity]
  omega

theorem keeps_storeReadCommand (h : o.Keeps s.occupancy) (t : Tag) (params : List Byte) :
    o.Keeps (storeReadCommand t params s).occupancy := by
  unfold storeReadCommand
  dsimp only
  split
  · exact keeps_reply h ..
  · split
    · exact keeps_reply h ..
    · split
      · exact keeps_reply h ..
      · exact keeps_settle (keeps_markExecuting (by exact h) t)

theorem keeps_finishStoreRead (h : o.Keeps s.occupancy) (bytes : List Byte) :
    o.Keeps (finishStoreRead bytes s).occupancy := by
  unfold finishStoreRead
  split
  · exact keeps_reply h ..
  · exact keeps_dropManagementHead h
  · exact h

/-! ## PORT-CONTROL (R68 to R70) and CANCEL (R18) -/

/-- PORT-CONTROL executed by the row of one action (R68). -/
theorem keeps_portControl (h : o.Keeps s.occupancy) {action : PortAction} {body : Tag → Branch → State → State}
    (hbody : ∀ t b, o.Keeps (body t b s).occupancy) (t : Tag) (params : List Byte) :
    o.Keeps (portControl action body t params s).occupancy := by
  unfold portControl
  split
  · split
    · exact hbody ..
    · exact h
  · exact keeps_reply h ..

theorem keeps_enableCommand (h : o.Keeps s.occupancy) (t : Tag) (b : Branch) :
    o.Keeps (enableCommand t b s).occupancy := by
  have henabled : o.Keeps (s.setPort b { s.port b with state := .enabled, echoFaults := 0 }).occupancy :=
    h.of_eq (occupancy_setPort_of_queue rfl)
  unfold enableCommand
  split
  · exact keeps_reply h ..
  · exact keeps_reply h ..
  · exact keeps_reply henabled ..

theorem keeps_disableCommand (h : o.Keeps s.occupancy) (t : Tag) (b : Branch) :
    o.Keeps (disableCommand t b s).occupancy := by
  have hqueue : (s.port b).disable.queue = (s.port b).queue := by
    unfold BranchPort.disable
    split
    · split <;> rfl
    · rfl
    · rfl
  have hdisabled : o.Keeps (s.setPort b (s.port b).disable).occupancy := h.of_eq (occupancy_setPort_of_queue hqueue)
  unfold disableCommand
  dsimp only
  split
  · exact keeps_reply (keeps_dropQueue hdisabled b) ..
  · exact keeps_reply hdisabled ..

theorem keeps_cancelCommand (h : o.Keeps s.occupancy) (t : Tag) (params : List Byte) :
    o.Keeps (cancelCommand t params s).occupancy := by
  unfold cancelCommand
  split
  · exact keeps_reply h ..
  · exact keeps_reply (keeps_cancelTransaction h _) ..

end Sys2Proof.Machine
end

section
/-!
The events of the trunk line, the resets and the passing of time keep the capacities and the rules of the trunk line (O54): how each changes the Trunk Port, and what its rules say of the port after it (R159, R162).
-/

namespace Sys2Proof.Machine

/-! ## The rules of the trunk line (R159, R162) -/

/-- A break detected on a line in break, whatever stood before it (R162). -/
theorem trunkSound_broken {t : TrunkPort} (hbreak : t.lineInBreak = true) : TrunkSound t.broken := by
  simp [TrunkSound, TrunkPort.broken, hbreak]

section TrunkRules

variable {t : TrunkPort} (h : TrunkSound t)
include h

theorem TrunkSound.idleLine : TrunkSound t.idleLine := by
  obtain ⟨-, -, -, hopen⟩ := h
  refine ⟨?_, ?_, ?_, ?_⟩ <;> cases hreceiver : t.receiver <;> simp_all [TrunkPort.idleLine]

theorem TrunkSound.entersBreak (hidle : t.lineInBreak = false) (received : LineFrame) :
    TrunkSound { t with lineInBreak := true, breakTimer := some 0, reception := t.cutReception received } := by
  obtain ⟨-, hbroken, -, hopen⟩ := h
  refine ⟨fun _ => rfl, fun hreceiver => ?_, fun hcut => ?_, hopen⟩
  · have hinBreak := (hbroken hreceiver).1
    simp [hidle] at hinBreak
  · have hgathers : t.gathers received = true := by
      unfold TrunkPort.cutReception at hcut
      split at hcut
      case isTrue hg => exact hg.1
      case isFalse => simp at hcut
    simp only [TrunkPort.gathers, Bool.and_eq_true, decide_eq_true_eq] at hgathers
    exact ⟨hgathers.1, rfl⟩

theorem TrunkSound.softReset : TrunkSound t.softReset := by
  obtain ⟨htimer, -, -, -⟩ := h
  exact ⟨htimer, by simp [TrunkPort.softReset], by simp [TrunkPort.softReset], by simp [TrunkPort.softReset]⟩

/-- The receiver opens into a detected break that is still held, or RECEIVING (R174). -/
theorem TrunkSound.opened : TrunkSound t.opened := by
  obtain ⟨htimer, -, hcut, -⟩ := h
  refine ⟨htimer, ?_, fun hreception => ?_, fun _ => rfl⟩
  · simp [TrunkPort.opened]
  · obtain ⟨-, hruns⟩ := hcut hreception
    have hstopped : t.breakTimer.isNone = false := by simpa using hruns
    exact ⟨by simp [TrunkPort.opened, hstopped], hruns⟩

theorem TrunkSound.age : TrunkSound t.age := by
  obtain ⟨htimer, hbroken, hcut, hopen⟩ := h
  refine ⟨by simpa [TrunkPort.age] using htimer, by simpa [TrunkPort.age] using hbroken,
    by simpa [TrunkPort.age] using hcut, fun hreceiver => ?_⟩
  exact (if_neg hreceiver).trans (hopen hreceiver)

end TrunkRules

/-! ## The trunk line (R158 to R162) -/

variable {o : Occupancy} {s : State}

/-- A frame joins an Intake Queue that has room (R158). -/
theorem keeps_receiveFrame (h : o.Keeps s.occupancy) (frame : List Byte) :
    o.Keeps (receiveFrame frame s).occupancy := by
  unfold receiveFrame
  split
  · exact h
  · split
    · exact h
    case isFalse hroom =>
      have hlength : (s.tp.intake ++ [frame]).length ≤ Config.intakeCapacity := by
        rw [List.length_append]
        exact Nat.succ_le_of_lt (not_le.1 hroom)
      have hjoined : o.Keeps { s with tp := { s.tp with intake := s.tp.intake ++ [frame] } }.occupancy :=
        h.of_line (hlength.trans (le_max_right ..)) id
      exact hjoined

theorem keeps_breakCache (h : o.Keeps s.occupancy) : o.Keeps (breakCache s).occupancy := by
  refine Occupancy.Keeps.foldl (Occupancy.Keeps.foldl h (fun s t hs => ?_) _) (fun s i hs => ?_) _
  · unfold releaseQueued
    split
    · exact keeps_releaseSlot hs _
    · exact hs
  · unfold dropFilling
    split
    · dsimp only
      split
      · exact keeps_drainReport (by exact hs)
      · exact hs
    · exact hs

theorem keeps_detectBreak (h : o.Keeps s.occupancy) : o.Keeps (detectBreak s).occupancy := by
  unfold detectBreak
  split
  case isTrue hbreak =>
    have hbroken : o.Keeps (count (.trunk .breaks) { s with tp := s.tp.broken }).occupancy :=
      h.of_line (Nat.zero_le _) fun _ => trunkSound_broken hbreak.1
    have hcache := keeps_breakCache hbroken
    have hmanagement : (breakEffects s).mu.queue.length ≤ s.mu.queue.length := by
      simpa [breakEffects, freeTags, ManagementUnit.broken] using List.length_filter_le ..
    refine keeps_settle (hcache.of_le ?_ (fun b => ?_) ?_ ?_)
    · simp [State.occupancy, breakEffects_tp]
    · simp [State.port, breakEffects, BranchPort.broken]
    · simpa using Or.inl hmanagement
    · simp [breakEffects, freeTags]
  case isFalse => exact h

theorem keeps_returnToIdle (h : o.Keeps s.occupancy) : o.Keeps (returnToIdle s).occupancy := by
  have hidle : o.Keeps { s with tp := s.tp.idleLine }.occupancy := h.of_line (le_max_left ..) TrunkSound.idleLine
  unfold returnToIdle
  split
  · exact keeps_receiveFrame hidle _
  · exact hidle

/-! ## Resets and loads (R161, R163, R174) -/

/-- The queues of a state at rest are empty, whatever stood before it. -/
theorem keeps_of_empty (hline : TrunkSound s.tp) (hintake : s.tp.intake = []) (hports : ∀ b, (s.port b).queue = [])
    (hmanagement : s.mu.queue = []) (hinvalidation : s.iqe.queue = []) : o.Keeps s.occupancy where
  within _ :=
    ⟨by simp [State.occupancy, hintake], fun b => by simp [State.occupancy, hports],
      by simp [State.occupancy, hmanagement], by simp [State.occupancy, hinvalidation]⟩
  sound _ := hline

theorem keeps_powerOnState (pending : List Instr) (losses : Nat) (contents : List Host.Cell) :
    o.Keeps (powerOnState pending losses contents).occupancy :=
  keeps_of_empty trunkSound_reset rfl (fun b => congrArg BranchPort.queue (port_reset b)) rfl rfl

theorem keeps_powerOffState (pending : List Instr) (losses : Nat) (contents : List Host.Cell) :
    o.Keeps (powerOffState pending losses contents).occupancy :=
  keeps_of_empty trunkSound_reset rfl (fun b => congrArg BranchPort.queue (port_reset b)) rfl rfl

theorem keeps_softReset (h : o.Keeps s.occupancy) : o.Keeps (softReset s).occupancy := by
  have hline : o.Keeps { s with tp := s.tp.softReset }.occupancy := h.of_line (Nat.zero_le _) TrunkSound.softReset
  refine keeps_settle (hline.of_le rfl (fun b => ?_) (Nat.zero_le _) (Nat.zero_le _))
  simp [State.port, BranchPort.reset]

theorem keeps_applyLoad (h : o.Keeps s.occupancy) (record : Option LoadedRecord) (bad : Nat) :
    o.Keeps (applyLoad record bad s).occupancy := by
  have hline : o.Keeps { s with tp := s.tp.opened }.occupancy := h.of_line (le_max_left ..) TrunkSound.opened
  refine hline.of_le ?_ (fun b => ?_) ?_ ?_
  all_goals simp [State.occupancy, State.port, applyLoad, reportInvalid, apply_ite, BranchPort.loaded]

theorem keeps_loaderArrived (h : o.Keeps s.occupancy) (k : Fin 33) (record : Option LoadedRecord) (bad : Nat)
    (bytes : List Byte) : o.Keeps (loaderArrived k record bad bytes s).occupancy := by
  unfold loaderArrived
  split
  · exact h
  · dsimp only
    split
    · exact keeps_applyLoad (by exact h) ..
    · exact h

/-- The passing of time makes no queue longer (log 4). -/
theorem keeps_tick (h : o.Keeps s.occupancy) : o.Keeps (tick s).occupancy := by
  unfold tick
  split
  · have hline : o.Keeps { s with tp := s.tp.age }.occupancy := h.of_line (le_max_left ..) TrunkSound.age
    refine hline.of_le rfl (fun b => ?_) (le_max_left ..) (le_max_left ..)
    simp [State.port, BranchPort.age]
  · exact h

end Sys2Proof.Machine
end

section
/-!
Every step keeps the queues within their capacities and the Trunk Port sound (O54): the events, then the commands of the opcode table.
-/

namespace Sys2Proof.Machine

variable {o : Occupancy} {s s' : State}

/-! ## Events and commands -/

/-- An event keeps what its body keeps, with power and without. -/
theorem keeps_event {body : State} (h : o.Keeps s.occupancy) (hbody : o.Keeps body.occupancy)
    (hs' : event s body = .next s') : o.Keeps s'.occupancy := by
  unfold event at hs'
  obtain rfl := Host.Outcome.next.inj hs'
  split
  · exact hbody
  · exact h

/-- A management command, executed from the head of the Management Queue or not. -/
theorem keeps_command {code : Nat → Bool} {body : Tag → List Byte → State → State} (h : o.Keeps s.occupancy)
    (hs' : event s (whenCommand code body s) = .next s') (hbody : ∀ t params, o.Keeps (body t params s).occupancy) :
    o.Keeps s'.occupancy := by
  refine keeps_event h ?_ hs'
  unfold whenCommand
  split
  · split
    · exact hbody ..
    · exact h
  · exact h

/-- A management command that takes no parameters. -/
theorem keeps_plainCommand {code : Nat → Bool} {body : Tag → State → State} (h : o.Keeps s.occupancy)
    (hs' : event s (whenCommand code (withoutParameters body) s) = .next s')
    (hbody : ∀ t, o.Keeps (body t s).occupancy) : o.Keeps s'.occupancy :=
  keeps_command h hs' fun t params => by
    unfold withoutParameters
    split
    · exact hbody t
    · exact keeps_reply h ..

/-! ## Power and the trunk line -/

theorem keeps_execPowerOn (hs' : execPowerOn s = .next s') : o.Keeps s'.occupancy := by
  unfold execPowerOn at hs'
  obtain rfl := Host.Outcome.next.inj hs'
  split <;> exact keeps_powerOnState ..

theorem keeps_execPowerLoss (h : o.Keeps s.occupancy) (hs' : execPowerLoss s = .next s') : o.Keeps s'.occupancy := by
  unfold execPowerLoss at hs'
  obtain rfl := Host.Outcome.next.inj hs'
  split
  · exact keeps_powerOffState ..
  · exact h

theorem keeps_execLineEntersBreak {received : LineFrame} (h : o.Keeps s.occupancy)
    (hs' : execLineEntersBreak received s = .next s') : o.Keeps s'.occupancy := by
  refine keeps_event h ?_ hs'
  split
  · exact h
  case isFalse hidle =>
    exact h.of_line (le_max_left ..) fun hsound => hsound.entersBreak (Bool.eq_false_iff.2 hidle) received

theorem keeps_execFrameCompletion {frame : LineFrame} (h : o.Keeps s.occupancy)
    (hs' : execFrameCompletion frame s = .next s') : o.Keeps s'.occupancy := by
  refine keeps_event h ?_ hs'
  split
  · exact keeps_receiveFrame h _
  · exact h

theorem keeps_execStartOfTransmission (h : o.Keeps s.occupancy) (hs' : execStartOfTransmission s = .next s') :
    o.Keeps s'.occupancy := by
  refine keeps_event h ?_ hs'
  split <;> exact h

theorem keeps_execTransmissionEnd (h : o.Keeps s.occupancy) (hs' : execTransmissionEnd s = .next s') :
    o.Keeps s'.occupancy := by
  refine keeps_event h ?_ hs'
  split
  · split
    · exact keeps_softReset (by exact h)
    · exact h
  · exact h

/-! ## The Dispatcher, the Route Cache and the loader -/

/-- The frame dispatched has left the Intake Queue (R4). -/
theorem keeps_execDispatch (h : o.Keeps s.occupancy) (hs' : execDispatch s = .next s') : o.Keeps s'.occupancy := by
  have hdropped : o.Keeps (dropIntakeHead s).occupancy := by
    refine h.of_line ?_ id
    rw [List.length_tail]
    exact (Nat.sub_le ..).trans (le_max_left ..)
  refine keeps_event h ?_ hs'
  split
  · exact keeps_settle (keeps_dispatchFrame hdropped _)
  · exact h

theorem keeps_execFillCompletion (h : o.Keeps s.occupancy) (hs' : execFillCompletion s = .next s') :
    o.Keeps s'.occupancy := by
  refine keeps_event h ?_ hs'
  split
  · exact keeps_settle (keeps_fillResult (by exact h) ..)
  · exact keeps_settle h
  · exact h

theorem keeps_execFillRefusal {i : SlotNo} (h : o.Keeps s.occupancy) (hs' : execFillRefusal i s = .next s') :
    o.Keeps s'.occupancy := by
  refine keeps_event h ?_ hs'
  split
  · exact keeps_settle (keeps_fillRefused (by exact h) i)
  · exact h

theorem keeps_execChunkCompletion (h : o.Keeps s.occupancy) (hs' : execChunkCompletion s = .next s') :
    o.Keeps s'.occupancy := by
  refine keeps_event h ?_ hs'
  split
  · exact keeps_settle (keeps_chunkArrived (by exact h) ..)
  · exact keeps_settle h
  · exact h

theorem keeps_execLoaderReadCompletion (h : o.Keeps s.occupancy) (hs' : execLoaderReadCompletion s = .next s') :
    o.Keeps s'.occupancy := by
  refine keeps_event h ?_ hs'
  split
  · exact keeps_settle (keeps_loaderArrived (by exact h) ..)
  · exact h

theorem keeps_execProcessingEvent (h : o.Keeps s.occupancy) (hs' : execProcessingEvent s = .next s') :
    o.Keeps s'.occupancy := by
  refine keeps_event h ?_ hs'
  split
  · exact keeps_processHead h _
  · exact h

/-! ## The branch ports -/

theorem keeps_execTakeHead {b : Branch} (h : o.Keeps s.occupancy) (hs' : execTakeHead b s = .next s') :
    o.Keeps s'.occupancy := by
  refine keeps_event h ?_ hs'
  split
  case h_1 e rest _ _ hqueue => exact keeps_takeEntry h e (by rw [hqueue]; exact Nat.le_succ _)
  case h_2 => exact h

theorem keeps_execBranchTransmissionEnd {b : Branch} {heard : List Byte} (h : o.Keeps s.occupancy)
    (hs' : execBranchTransmissionEnd b heard s = .next s') : o.Keeps s'.occupancy := by
  refine keeps_event h ?_ hs'
  split
  · split
    · exact keeps_goodEcho h ..
    · exact keeps_faultyEcho h ..
  · exact h

theorem keeps_execTransmitWatchdogExpiry {b : Branch} (h : o.Keeps s.occupancy)
    (hs' : execTransmitWatchdogExpiry b s = .next s') : o.Keeps s'.occupancy := by
  refine keeps_event h ?_ hs'
  split
  · exact keeps_shutDown h ..
  · exact h

theorem keeps_execResponseTimerExpiry {b : Branch} (h : o.Keeps s.occupancy)
    (hs' : execResponseTimerExpiry b s = .next s') : o.Keeps s'.occupancy := by
  have hstopped : o.Keeps (count (.branch b .timeouts) (stopTimer b s)).occupancy := h.of_eq (occupancy_stopTimer b s)
  refine keeps_event h ?_ hs'
  split
  · exact keeps_failAttempt hstopped ..
  · exact h

theorem keeps_execBranchFrameHeard {b : Branch} {bytes : List Byte} (h : o.Keeps s.occupancy)
    (hs' : execBranchFrameHeard b bytes s = .next s') : o.Keeps s'.occupancy := by
  refine keeps_event h ?_ hs'
  split
  · exact keeps_hearReply h ..
  · exact h
  · exact h

/-! ## The Table Store -/

theorem keeps_execOperationCompletion (h : o.Keeps s.occupancy) (hs' : execOperationCompletion s = .next s') :
    o.Keeps s'.occupancy := by
  refine keeps_event h ?_ hs'
  split
  · exact keeps_settle (h.of_eq (by apply occupancy_of_blocks <;> simp))
  · exact h

theorem keeps_execSuspendEffective (h : o.Keeps s.occupancy) (hs' : execSuspendEffective s = .next s') :
    o.Keeps s'.occupancy := by
  refine keeps_event h ?_ hs'
  split
  · exact keeps_settle (h.of_eq (by apply occupancy_of_blocks <;> simp))
  · exact h

theorem keeps_execHoldoffExpiry (h : o.Keeps s.occupancy) (hs' : execHoldoffExpiry s = .next s') :
    o.Keeps s'.occupancy := by
  refine keeps_event h ?_ hs'
  split
  · exact keeps_settle (h.of_eq (by apply occupancy_of_blocks <;> simp))
  · exact h

theorem keeps_execStoreReadCompletion (h : o.Keeps s.occupancy) (hs' : execStoreReadCompletion s = .next s') :
    o.Keeps s'.occupancy := by
  refine keeps_event h ?_ hs'
  split
  · exact keeps_settle (keeps_finishStoreRead (by exact h) _)
  · exact keeps_settle h
  · exact h

/-! ## Every command, and every step -/

/-- Every command of the opcode table keeps the capacities and the rules of the trunk line. -/
theorem keeps_exec (h : o.Keeps s.occupancy) {c : Instr} (hs' : exec c s = .next s') : o.Keeps s'.occupancy := by
  cases c with
  | powerOn => exact keeps_execPowerOn hs'
  | powerLoss => exact keeps_execPowerLoss h hs'
  | lineEntersBreak received => exact keeps_execLineEntersBreak h hs'
  | lineReturnsToIdle => exact keeps_event h (keeps_returnToIdle (keeps_detectBreak h)) hs'
  | trunkBreak => exact keeps_event h (keeps_detectBreak h) hs'
  | frameCompletion frame => exact keeps_execFrameCompletion h hs'
  | dispatch => exact keeps_execDispatch h hs'
  | fillCompletion => exact keeps_execFillCompletion h hs'
  | fillRefusal slot => exact keeps_execFillRefusal h hs'
  | takeHead branch => exact keeps_execTakeHead h hs'
  | branchTransmissionEnd branch heard => exact keeps_execBranchTransmissionEnd h hs'
  | transmitWatchdogExpiry branch => exact keeps_execTransmitWatchdogExpiry h hs'
  | responseTimerExpiry branch => exact keeps_execResponseTimerExpiry h hs'
  | branchFrameHeard branch bytes => exact keeps_execBranchFrameHeard h hs'
  | startOfTransmission => exact keeps_execStartOfTransmission h hs'
  | transmissionEnd => exact keeps_execTransmissionEnd h hs'
  | operationCompletion => exact keeps_execOperationCompletion h hs'
  | suspendEffective => exact keeps_execSuspendEffective h hs'
  | holdoffExpiry => exact keeps_execHoldoffExpiry h hs'
  | storeReadCompletion => exact keeps_execStoreReadCompletion h hs'
  | chunkCompletion => exact keeps_execChunkCompletion h hs'
  | loaderReadCompletion => exact keeps_execLoaderReadCompletion h hs'
  | intervalTimerExpiry => exact keeps_event h (by split <;> exact h) hs'
  | processingEvent => exact keeps_execProcessingEvent h hs'
  | identify => exact keeps_plainCommand h hs' fun t => keeps_reply h ..
  | readConfig => exact keeps_plainCommand h hs' fun t => keeps_reply h ..
  | setConfig => exact keeps_command h hs' <| keeps_setConfigCommand h
  | events => exact keeps_plainCommand h hs' fun t => keeps_reply (s := clearLatches s) h ..
  | setEventMask => exact keeps_command h hs' <| keeps_setEventMaskCommand h
  | faultRead => exact keeps_plainCommand h hs' fun t => keeps_reply h ..
  | faultClear => exact keeps_command h hs' <| keeps_faultClearCommand h
  | changesRead =>
    exact keeps_plainCommand h hs' fun t => keeps_reply (s := { s with ust := s.ust.takeChanges }) h ..
  | unitStatusRead => exact keeps_command h hs' <| keeps_unitStatusReadCommand h
  | countersRead => exact keeps_command h hs' <| keeps_countersReadCommand h
  | snapshot => exact keeps_plainCommand h hs' fun t => keeps_reply (s := { s with pm := s.pm.snapshot }) h ..
  | portControlEnable => exact keeps_command h hs' <| keeps_portControl h <| keeps_enableCommand h
  | portControlDisable => exact keeps_command h hs' <| keeps_portControl h <| keeps_disableCommand h
  | portControlReport => exact keeps_command h hs' <| keeps_portControl h fun t b => keeps_reply h ..
  | cancel => exact keeps_command h hs' <| keeps_cancelCommand h
  | queueInvalidation => exact keeps_command h hs' <| keeps_queueInvalidationCommand h
  | iqStatus => exact keeps_plainCommand h hs' fun t => keeps_reply h ..
  | iqRecover => exact keeps_plainCommand h hs' <| keeps_iqRecoverCommand h
  | storeWriteEnable => exact keeps_plainCommand h hs' <| keeps_writeEnableCommand h
  | storeWriteDisable => exact keeps_plainCommand h hs' fun t => keeps_reply (s := setWel false s) h ..
  | storeProgram => exact keeps_command h hs' <| keeps_programCommand h
  | storeErase => exact keeps_command h hs' <| keeps_eraseCommand h
  | storeSuspend =>
    exact keeps_plainCommand h hs' fun t =>
      keeps_reply (s := { s with ts := { s.ts with phase := s.ts.judgeSuspend.2 } }) h ..
  | storeResume => exact keeps_plainCommand h hs' <| keeps_resumeCommand h
  | storeRead => exact keeps_command h hs' <| keeps_storeReadCommand h
  | storeStatus => exact keeps_plainCommand h hs' fun t => keeps_reply h ..
  | storeProtect => exact keeps_command h hs' <| keeps_protectCommand h
  | activatePolicyStart => exact keeps_command h hs' <| keeps_activatePolicy h <| keeps_startActivation h
  | activatePolicyReport => exact keeps_command h hs' <| keeps_activatePolicy h fun t => keeps_reply h ..
  | cacheRead => exact keeps_command h hs' <| keeps_cacheReadCommand h
  | resetBridge =>
    exact keeps_plainCommand h hs' fun t => keeps_reply (s := { s with mu := { s.mu with halted := some t } }) h ..
  | unknownCommand => exact keeps_command h hs' fun t params => keeps_reply h ..

theorem keeps_step (hs' : step s = .next s') : s.occupancy.Keeps s'.occupancy := by
  unfold step at hs'
  split at hs'
  case h_1 =>
    obtain rfl := Host.Outcome.next.inj hs'
    exact keeps_tick (.refl _)
  case h_2 c rest _ => exact keeps_exec (s := s.withPending rest) (.refl _) hs'

/-! ## The Change List (R97) -/

/-- The Change List within its capacity is an invariant of the Unit Status Table: an update appends only while there is room (R98). -/
theorem tableInvariant_changesWithin :
    TableInvariant fun t => t.changes.length ≤ Config.changeListCapacity where
  reset := Nat.zero_le _
  takeChanges t h := by
    have hdropped : t.takeChanges.changes = t.changes.drop 16 := rfl
    rw [hdropped, List.length_drop]
    exact (Nat.sub_le ..).trans h
  update t u o status watch hu h := by
    obtain ⟨i, rfl⟩ := exists_eq_byteOf hu
    by_cases hchange : isChange watch t.units[i.val].status status = true ∧ t.units[i.val].changed = false
    · rw [update_changed t rfl o status watch hchange]
      split
      case isTrue hroom =>
        rw [List.length_append]
        exact Nat.succ_le_of_lt hroom
      case isFalse => exact h
    · rw [update_unchanged t rfl o status watch hchange]
      exact h

end Sys2Proof.Machine

namespace Sys2Proof
open Sys2Proof.Machine

/-- Settles O54: no queue grows but into room that the rules have found, and every change of the Trunk Port keeps its rules; the Change List is bounded by an invariant of its table. -/
theorem capacitiesAreKept : Obligations.CapacitiesAreKept := by
  intro s s' hstep
  refine ⟨fun hcapacity => ?_, (keeps_step hstep).sound⟩
  obtain ⟨hwithin, hchanges⟩ := (withinCapacity_iff s).1 hcapacity
  exact (withinCapacity_iff s').2
    ⟨(keeps_step hstep).within hwithin, tableInvariant_changesWithin.after_step hchanges hstep⟩

end Sys2Proof
end

section
/-!
The trunk line (O30, O31): complete frames, line conditions and the start of a transmission (R155, R158 to R162), and the passing of time (O2, log 4).
-/

namespace Sys2Proof.Machine

variable {s : State}

/-! ## Complete frames (R158) -/

/-- The worked value of R158. -/
theorem crc_of_the_digits : crc [49, 50, 51, 52, 53, 54, 55, 56, 57] = 10673 := by simp [crc, crcByte, crcBits]

/-- A frame is discarded for its size, or when its last two bytes are not the check of those before them (R158). -/
theorem frameRefused_iff (frame : List Byte) :
    frameRefused frame = true ↔
      frame.length < 3 ∨ 55 < frame.length ∨
        frame.drop (frame.length - 2) ≠
          [byteOf ((crc (frameBody frame)).toNat / 256), byteOf (crc (frameBody frame)).toNat] := by
  have hrefused : frameRefused frame = true ↔ frame.length < 3 ∨ 55 < frame.length ∨ ¬ checkMatches frame = true := by
    simp only [frameRefused, Bool.or_eq_true, decide_eq_true_eq, Bool.not_eq_true', Bool.not_eq_true, or_assoc]
    rfl
  by_cases hlength : frame.length < 3
  · simp [hrefused, hlength]
  · rw [hrefused, checkMatches_iff (by omega)]

theorem gathers_iff (t : TrunkPort) (frame : LineFrame) :
    t.gathers frame = true ↔ t.receiver = .receiving ∧ frame.age ≤ t.openFor := by simp [TrunkPort.gathers]

theorem exec_frameCompletion (hpowered : s.powered = true) (frame : LineFrame) :
    exec (.frameCompletion frame) s = .next
      (if (s.tp.receiver = .receiving ∧ frame.age ≤ s.tp.openFor) ∧ s.tp.lineInBreak = false then
        receiveFrame frame.bytes s
      else s) := by
  rw [exec, execFrameCompletion, event_of_powered hpowered]
  simp only [gathers_iff]

/-! ## Line conditions (R159, R162) -/

theorem exec_lineEntersBreak (hpowered : s.powered = true) (received : LineFrame) :
    exec (.lineEntersBreak received) s = .next
      (if s.tp.lineInBreak = true then s
      else
        { s with
          tp :=
            { s.tp with
              lineInBreak := true
              breakTimer := some 0
              reception := s.tp.cutReception received } }) := by
  rw [exec, execLineEntersBreak, event_of_powered hpowered]

theorem cutReception_eq (t : TrunkPort) (received : LineFrame) :
    t.cutReception received =
      if t.receiver = .receiving ∧ received.age ≤ t.openFor ∧ received.bytes ≠ [] then some received.bytes else none := by
  simp only [TrunkPort.cutReception, gathers_iff, and_assoc]

theorem exec_trunkBreak (hpowered : s.powered = true) : exec .trunkBreak s = .next (detectBreak s) :=
  event_of_powered hpowered _

theorem exec_lineReturnsToIdle (hpowered : s.powered = true) :
    exec .lineReturnsToIdle s = .next (returnToIdle (detectBreak s)) := event_of_powered hpowered _

theorem detectBreak_of_held (hbreak : s.tp.lineInBreak = true) (htimer : s.tp.breakTimer = some 200) :
    detectBreak s = settle (breakEffects s) := if_pos ⟨hbreak, htimer⟩

theorem detectBreak_of_not_held (h : ¬ (s.tp.lineInBreak = true ∧ s.tp.breakTimer = some 200)) : detectBreak s = s :=
  if_neg h

/-- A detected break has left no frame to judge (R159, R162). -/
theorem returnToIdle_of_no_reception (h : s.tp.reception = none) :
    returnToIdle s = { s with tp := s.tp.idleLine } := by
  rw [returnToIdle, h]

theorem returnToIdle_of_reception {frame : List Byte} (h : s.tp.reception = some frame) :
    returnToIdle s = receiveFrame frame { s with tp := s.tp.idleLine } := by
  rw [returnToIdle, h]

theorem reception_settle_breakEffects (s : State) : (settle (breakEffects s)).tp.reception = none := by
  simp [breakEffects_tp, TrunkPort.broken]

/-! ## The start of a transmission (R155, R160) -/

/-- ATTENTION is an event source that is present and not masked (R155). -/
theorem attention_iff (s : State) :
    attention s = true ↔ ∃ n : Fin 8, bitOf n.val (presences s) = true ∧ bitOf n.val s.es.mask = false := by
  have hbits : presences s &&& ~~~s.es.mask = 0 ↔
      ∀ n : Fin 8, bitOf n.val (presences s) = true → bitOf n.val s.es.mask = true := by
    rw [BitVec.eq_of_getLsbD_eq_iff]
    simp only [bitOf, BitVec.getLsbD_and, BitVec.getLsbD_not]
    constructor
    · intro h n hpresent
      have := h n.val n.isLt
      simp_all
    · intro h i hi
      have := h ⟨i, hi⟩
      simp_all
  rw [attention, bne_iff_ne, Ne, hbits]
  simp

theorem exec_startOfTransmission {r : Response} {rest : List Response} (hpowered : s.powered = true)
    (hidle : s.tp.transmitter = none) (hreplies : s.tp.replies = r :: rest) :
    exec .startOfTransmission s = .next
      { s with tp := { s.tp with transmitter := some (responseFrame (attention s) r) } } := by
  rw [exec, execStartOfTransmission, event_of_powered hpowered, hidle, hreplies]

/-- The first byte of a response frame: its kind and the tag (R177). -/
theorem tagByte_eq (t : Tag) : 0x20 ||| byteOf t.val = byteOf (32 + t.val) := by decide +revert

theorem flagsByte_eq (attention status : Bool) :
    flagAt 7 attention ||| flagAt 6 status =
      byteOf ((if attention = true then 128 else 0) + (if status = true then 64 else 0)) := by decide +revert

/-! ## The passing of time (log 4) -/

theorem maxTime_eq (o : StoreOp) : o.maxTime = if o.isProgram = true then 2500 else 150000 := by cases o <;> rfl

theorem step_of_no_command (h : s.pending = []) : step s = .next (tick s) := by rw [step, h]

end Sys2Proof.Machine

namespace Sys2Proof
open Sys2Proof.Machine

/-- Settles O31: the check computed, then the three results of a complete frame, then FRAME_COMPLETION by what the receiver gathers. -/
theorem framesAreJudged : Obligations.FramesAreJudged := by
  refine ⟨crc_of_the_digits, fun s frame => ?_, fun s frame hpowered => ?_⟩
  · simp only [receiveFrame, frameRefused_iff]
    rfl
  · rw [exec_frameCompletion hpowered]
    refine ⟨fun hreceiver => ?_, fun hreceiver hage => ?_, fun hreceiver hage hline => ?_⟩
    · rw [if_neg fun h => hreceiver h.1.1]
    · rw [if_neg fun h => (Nat.not_le.2 hage) h.1.2]
    · rw [if_pos ⟨⟨hreceiver, hage⟩, hline⟩]

/-- Settles O30: the line into break, its return from a break not yet detected and from one that has run its time, and the frame that a transmission sends. -/
theorem theTrunkLineMoves : Obligations.TheTrunkLineMoves := by
  refine ⟨fun s received hpowered => ?_, fun s hpowered hsound => ?_, fun s r rest hpowered hidle hreplies => ?_⟩
  · rw [exec_lineEntersBreak hpowered, cutReception_eq]
  · intro idle
    rw [exec_lineReturnsToIdle hpowered]
    refine ⟨fun htimer => ?_, fun u htimer hu => ?_⟩
    · rw [detectBreak_of_not_held fun hheld => htimer hheld.2]
      cases hreception : s.tp.reception with
      | none => rw [returnToIdle_of_no_reception hreception]; rfl
      | some frame => rw [returnToIdle_of_reception hreception]; rfl
    · have hbreak : s.tp.lineInBreak = true := hsound.1 (by rw [htimer]; rfl)
      rw [exec_trunkBreak hpowered, detectBreak_of_held hbreak htimer] at hu
      obtain rfl := Host.Outcome.next.inj hu
      rw [detectBreak_of_held hbreak htimer, returnToIdle_of_no_reception (reception_settle_breakEffects s)]
      rfl
  · refine ⟨attention s, ?_, ?_⟩
    · simp [attention_iff, Fin.exists_fin_succ, bitOf_presences, faultPending_iff, faultOverflow, changePending_iff, iqError_iff]
    · rw [exec_startOfTransmission hpowered hidle hreplies, responseFrame, tagByte_eq, flagsByte_eq]

/-- Settles O2: each clock ages by its own law, and nothing else changes. -/
theorem emptyQueueLetsTimePass : Obligations.EmptyQueueLetsTimePass := by
  intro s hempty
  have hoperation : Operation.age =
      fun o => { o with ran := min (o.ran + 1) (if o.op.isProgram = true then 2500 else 150000) } := by
    funext o
    rw [Operation.age, maxTime_eq]
  rw [step_of_no_command hempty, tick, TableStore.age, hoperation]
  rfl

end Sys2Proof
end

section
/-!
A change of the Route Cache that ends with the report of a drained cache (R44, R117), and how two such changes make one: a waiting FENCE completes in the change that drains the cache, and only there.
-/

namespace Sys2Proof.Machine

variable {s : State} {slots slots' : Vector CacheSlot 32} {ts ts' : TableStore}

/-- The state with other slots and another Table Store. -/
def State.recached (s : State) (slots : Vector CacheSlot 32) (ts : TableStore) : State :=
  { s with rc := { s.rc with slots := slots }, ts := ts }

/-- The same, with the report of a drained cache when the change has drained it (R117). -/
def State.withCache (s : State) (slots : Vector CacheSlot 32) (ts : TableStore) : State :=
  if s.iqe.state = .waitingFence ∧ s.rc.drained = false ∧ RouteCache.drained { s.rc with slots := slots } = true then
    completeFence (s.recached slots ts)
  else s.recached slots ts

/-- A change of slots by which none comes to hold the cache back from being drained (R44). -/
def Calms (slots slots' : Vector CacheSlot 32) : Prop :=
  ∀ i : SlotNo, slots[i.val].undrained = false → slots'[i.val].undrained = false

theorem Calms.drained (h : Calms slots slots') {recency recency' : List SlotNo}
    (hdrained : RouteCache.drained { slots := slots, recency := recency } = true) :
    RouteCache.drained { slots := slots', recency := recency' } = true := by
  simp only [RouteCache.drained, List.all_eq_true, List.mem_finRange, Bool.not_eq_true', forall_true_left] at hdrained ⊢
  exact fun i => h i (hdrained i)

theorem completeFence_recached (s : State) (slots slots' : Vector CacheSlot 32) (ts ts' : TableStore) :
    (completeFence (s.recached slots ts)).recached slots' ts' = completeFence (s.recached slots' ts') := by
  unfold completeFence
  simp only [State.recached]
  split <;> rfl

theorem withCache_of_reported (hstate : s.iqe.state = .waitingFence) (hbefore : s.rc.drained = false)
    (hafter : RouteCache.drained { s.rc with slots := slots } = true) :
    s.withCache slots ts = completeFence (s.recached slots ts) := if_pos ⟨hstate, hbefore, hafter⟩

theorem withCache_of_drained (h : s.rc.drained = true) : s.withCache slots ts = s.recached slots ts :=
  if_neg fun hreported => by simp [h] at hreported

theorem withCache_of_undrained (h : RouteCache.drained { s.rc with slots := slots } = false) :
    s.withCache slots ts = s.recached slots ts := if_neg fun hreported => by simp [h] at hreported

theorem withCache_of_not_waiting (h : s.iqe.state ≠ .waitingFence) : s.withCache slots ts = s.recached slots ts :=
  if_neg fun hreported => h hreported.1

theorem withCache_self (s : State) : s.withCache s.rc.slots s.ts = s := by
  cases h : s.rc.drained with
  | true => exact withCache_of_drained h
  | false => exact withCache_of_undrained h

/-- Two changes in which no slot comes to hold the cache back make one: the FENCE completes in either or in neither. -/
theorem withCache_withCache (h : Calms s.rc.slots slots) (h' : Calms slots slots') :
    (s.withCache slots ts).withCache slots' ts' = s.withCache slots' ts' := by
  by_cases hstate : s.iqe.state = .waitingFence
  case neg =>
    have hstate' : (s.recached slots ts).iqe.state ≠ .waitingFence := hstate
    rw [withCache_of_not_waiting hstate, withCache_of_not_waiting hstate', withCache_of_not_waiting hstate]
    rfl
  cases hbefore : s.rc.drained with
  | true =>
    have hbetween : (s.recached slots ts).rc.drained = true := h.drained hbefore
    rw [withCache_of_drained hbefore, withCache_of_drained hbefore, withCache_of_drained hbetween]; rfl
  | false =>
    cases hbetween : RouteCache.drained { s.rc with slots := slots } with
    | true =>
      have hcompleted : (completeFence (s.recached slots ts)).rc.drained = true := by
        rwa [show (completeFence (s.recached slots ts)).rc = (s.recached slots ts).rc by simp]
      rw [withCache_of_reported hstate hbefore hbetween, withCache_of_drained hcompleted, completeFence_recached,
        withCache_of_reported hstate hbefore (h'.drained hbetween)]
    | false =>
      rw [withCache_of_undrained hbetween]
      have hstill : (s.recached slots ts).rc.drained = false := hbetween
      cases hafter : RouteCache.drained { s.rc with slots := slots' } with
      | true =>
        have hreported := withCache_of_reported (s := s.recached slots ts) (ts := ts') hstate hstill hafter
        exact hreported.trans (withCache_of_reported hstate hbefore hafter).symm
      | false =>
        have hkept := withCache_of_undrained (s := s.recached slots ts) (ts := ts') hafter
        exact hkept.trans (withCache_of_undrained hafter).symm

/-! ## What a change of the cache leaves of the rest -/

@[simp] theorem withCache_rc (s : State) (slots : Vector CacheSlot 32) (ts : TableStore) :
    (s.withCache slots ts).rc = { s.rc with slots := slots } := by
  unfold State.withCache
  split
  · simp [State.recached]
  · rfl

@[simp] theorem withCache_ts (s : State) (slots : Vector CacheSlot 32) (ts : TableStore) :
    (s.withCache slots ts).ts = ts := by
  unfold State.withCache
  split
  · simp [State.recached]
  · rfl

@[simp] theorem withCache_tag (s : State) (slots : Vector CacheSlot 32) (ts : TableStore) (t : Tag) :
    (s.withCache slots ts).tag t = s.tag t := by
  unfold State.withCache
  split
  · simp [State.recached, State.tag]
  · rfl

@[simp] theorem withCache_slot (s : State) (f : SlotNo → CacheSlot) (ts : TableStore) (i : SlotNo) :
    (s.withCache (Vector.ofFn f) ts).slot i = f i := by simp [State.slot]

/-! ## The change of one slot -/

/-- One slot is changed, which does not count for the drained cache. -/
theorem withCache_set_of_eq {i : SlotNo} {c : CacheSlot} (h : c.undrained = (s.slot i).undrained) :
    s.withCache (s.rc.slots.set i.val c) ts = { s.setSlot i c with ts := ts } := by
  have hsame : RouteCache.drained { s.rc with slots := s.rc.slots.set i.val c } = s.rc.drained := by
    unfold RouteCache.drained
    refine congrArg (List.all _) (funext fun j => ?_)
    rw [Vector.getElem_set]
    split
    case isTrue hij => rw [h, State.slot]; simp only [hij]
    case isFalse => rfl
  cases hdrained : s.rc.drained with
  | true => exact withCache_of_drained hdrained
  | false => exact withCache_of_undrained (hsame.trans hdrained)

/-- The slot that held the cache back is changed, and the change is reported (R117). -/
theorem withCache_set_of_drain {i : SlotNo} {c : CacheSlot} (hi : (s.slot i).undrained = true) :
    s.withCache (s.rc.slots.set i.val c) ts = drainReport { s.setSlot i c with ts := ts } := by
  have hbefore : s.rc.drained = false := (drained_eq_false_iff s.rc).2 ⟨i, hi⟩
  simp only [State.withCache, hbefore, true_and]
  rfl

end Sys2Proof.Machine
end

section
/-!
The Route Cache at a trunk break (O32): the references of QUEUED transactions are released and FILLING slots dropped (R45), in one change of the cache.
-/

namespace Sys2Proof.Machine

variable {s : State}

/-! ## A slot at a break (R41, R45) -/

/-- A slot after the release of one of its references (R41). -/
def CacheSlot.released : CacheSlot → CacheSlot
  | .valid u r n => .valid u r (n - 1)
  | .stale u r n => if n ≤ 1 then .empty else .stale u r (n - 1)
  | c => c

/-- A slot after a break has dropped its fill (R45). -/
def CacheSlot.dropped : CacheSlot → CacheSlot
  | .filling _ _ _ => .empty
  | c => c

/-- A slot is FILLING. -/
def CacheSlot.isFilling : CacheSlot → Bool
  | .filling _ _ _ => true
  | _ => false

theorem undrained_released {c : CacheSlot} (h : c.undrained = false) : c.released.undrained = false := by
  cases c with
  | stale => simp [CacheSlot.undrained] at h
  | _ => exact h

theorem undrained_dropped {c : CacheSlot} (h : c.undrained = false) : c.dropped.undrained = false := by
  cases c with
  | filling => rfl
  | _ => exact h

theorem isFilling_released (c : CacheSlot) : c.released.isFilling = c.isFilling := by
  cases c with
  | stale u r n =>
    unfold CacheSlot.released
    dsimp only
    split <;> rfl
  | _ => rfl

theorem undrained_iterate_released {c : CacheSlot} (h : c.undrained = false) (n : Nat) :
    (CacheSlot.released^[n] c).undrained = false := by
  induction n generalizing c with
  | zero => exact h
  | succ n ih => exact ih (undrained_released h)

theorem isFilling_iterate_released (c : CacheSlot) (n : Nat) :
    (CacheSlot.released^[n] c).isFilling = c.isFilling := by
  induction n generalizing c with
  | zero => rfl
  | succ n ih => exact (ih c.released).trans (isFilling_released c)

theorem iterate_released_valid (u : Byte) (r : Route) (m n : Nat) :
    CacheSlot.released^[n] (.valid u r m) = .valid u r (m - n) := by
  induction n generalizing m with
  | zero => rfl
  | succ n ih => rw [Function.iterate_succ_apply, CacheSlot.released, ih, Nat.sub_sub, Nat.add_comm]

/-- A STALE slot becomes EMPTY when its last reference goes (R41). -/
theorem iterate_released_stale (u : Byte) (r : Route) (m n : Nat) :
    CacheSlot.released^[n] (.stale u r m) = if n ≠ 0 ∧ m ≤ n then .empty else .stale u r (m - n) := by
  have hempty : ∀ n, CacheSlot.released^[n] .empty = .empty := Function.iterate_fixed rfl
  induction n generalizing m with
  | zero => rfl
  | succ n ih =>
    rw [Function.iterate_succ_apply, CacheSlot.released]
    split
    case isTrue hlast => rw [hempty, if_pos (by omega)]
    case isFalse hmore =>
      rw [ih]
      by_cases hall : m ≤ n + 1
      · rw [if_pos (by omega), if_pos (by omega)]
      · rw [if_neg (by omega), if_neg (by omega), Nat.sub_sub, Nat.add_comm 1 n]

/-! ## The release of references (R22, R41) -/

theorem releaseReference_eq (i : SlotNo) (s : State) :
    releaseReference i s = s.withCache (s.rc.slots.set i.val (s.slot i).released) s.ts := by
  unfold releaseReference
  split
  case h_1 hslot => rw [withCache_set_of_eq (by rw [hslot]; rfl), hslot]; rfl
  case h_2 u r n hslot =>
    rw [hslot, CacheSlot.released]
    split
    · rw [withCache_set_of_drain (by rw [hslot]; rfl)]; rfl
    · rw [withCache_set_of_eq (by rw [hslot]; rfl)]; rfl
  case h_3 hvalid hstale =>
    have hsame : (s.slot i).released = s.slot i := by
      cases hslot : s.slot i with
      | valid u r n => exact absurd hslot (hvalid u r n)
      | stale u r n => exact absurd hslot (hstale u r n)
      | _ => rfl
    rw [hsame, State.slot, Vector.set_getElem_self, withCache_self]

/-- A record is QUEUED on a slot (R40). -/
def TagRecord.queuedOn (r : TagRecord) (i : SlotNo) : Bool := r.state = .queued ∧ r.slot = some i

/-- A slot as a function of its number, changed at one place. -/
theorem set_slots_eq (s : State) (i : SlotNo) (f : SlotNo → CacheSlot) (hf : ∀ j, j ≠ i → f j = s.slot j) :
    s.rc.slots.set i.val (f i) = Vector.ofFn f := by
  ext j hj : 1
  rw [Vector.getElem_set, Vector.getElem_ofFn]
  split
  case isTrue hij => simp only [← hij]
  case isFalse hij => exact (hf ⟨j, hj⟩ fun h => hij (by rw [← h])).symm

theorem slots_eq_ofFn (s : State) : s.rc.slots = Vector.ofFn s.slot := by
  ext j hj : 1
  rw [Vector.getElem_ofFn]
  rfl

theorem releaseQueued_eq (s : State) (t : Tag) :
    releaseQueued s t =
      s.withCache (Vector.ofFn fun i => if (s.tag t).queuedOn i = true then (s.slot i).released else s.slot i) s.ts := by
  have hnone : (∀ i, (s.tag t).queuedOn i = false) →
      (Vector.ofFn fun i => if (s.tag t).queuedOn i = true then (s.slot i).released else s.slot i) = s.rc.slots :=
    fun h => by simp only [h, Bool.false_eq_true, if_false, slots_eq_ofFn s]
  unfold releaseQueued
  split
  case isTrue hqueued =>
    cases hslot : (s.tag t).slot with
    | none => rw [hnone fun i => by simp [TagRecord.queuedOn, hslot], withCache_self]; rfl
    | some i =>
      have hi : (s.tag t).queuedOn i = true := by simp [TagRecord.queuedOn, hqueued, hslot]
      have hne : ∀ j, j ≠ i → ¬ (s.tag t).queuedOn j = true := fun j hj => by
        simp [TagRecord.queuedOn, hslot, hj.symm]
      have hset := set_slots_eq s i
        (fun j => if (s.tag t).queuedOn j = true then (s.slot j).released else s.slot j) fun j hj => if_neg (hne j hj)
      rw [← hset]
      simp only [hi, if_true]
      exact releaseReference_eq i s
  case isFalse hqueued => rw [hnone fun i => by simp [TagRecord.queuedOn, hqueued], withCache_self]

/-- The references of the QUEUED transactions among these tags are released, in one change of the cache. -/
theorem foldl_releaseQueued (ts : List Tag) (s : State) :
    ts.foldl releaseQueued s =
      s.withCache
        (Vector.ofFn fun i => CacheSlot.released^[(ts.filter fun t => (s.tag t).queuedOn i).length] (s.slot i)) s.ts := by
  induction ts generalizing s with
  | nil =>
    refine (withCache_self s).symm.trans ?_
    rw [slots_eq_ofFn]
    rfl
  | cons t ts ih =>
    rw [List.foldl_cons, ih, releaseQueued_eq s t]
    simp only [withCache_tag, withCache_slot, withCache_ts]
    rw [withCache_withCache]
    · refine congrArg (fun f => s.withCache (Vector.ofFn f) s.ts) (funext fun i => ?_)
      rw [List.filter_cons]
      split <;> rfl
    · intro i hi
      rw [Vector.getElem_ofFn]
      split
      · exact undrained_released hi
      · exact hi
    · intro i hi
      rw [Vector.getElem_ofFn] at hi ⊢
      exact undrained_iterate_released hi _

/-! ## The dropping of fills (R45, R136) -/

/-- A reader whose fill is withdrawn when its slot is among the given ones (R136). -/
def Reader.withdrawn (r : Reader) (p : SlotNo → Bool) : Reader :=
  match r with
  | .fill i => if p i = true then .droppedFill else .fill i
  | other => other

/-- The fills of the given slots are withdrawn from the store (R136; log 12). -/
def TableStore.withdrawAll (t : TableStore) (p : SlotNo → Bool) : TableStore :=
  { t with
    fills := t.fills.filter fun f => !p f.slot
    refusedFills := t.refusedFills.filter fun i => !p i
    reading := t.reading.map fun q => { q with reader := q.reader.withdrawn p } }

theorem withdrawn_withdrawn (r : Reader) (p q : SlotNo → Bool) :
    (r.withdrawn p).withdrawn q = r.withdrawn fun i => p i || q i := by
  cases r with
  | fill i => by_cases hp : p i = true <;> simp [Reader.withdrawn, hp]
  | _ => rfl

theorem withdrawAll_withdrawAll (t : TableStore) (p q : SlotNo → Bool) :
    (t.withdrawAll p).withdrawAll q = t.withdrawAll fun i => p i || q i := by
  simp [TableStore.withdrawAll, List.filter_filter, Function.comp_def, withdrawn_withdrawn, Bool.and_comm]

theorem withdrawAll_of_none (t : TableStore) {p : SlotNo → Bool} (h : ∀ i, p i = false) : t.withdrawAll p = t := by
  have hreader : ∀ r : Reader, r.withdrawn p = r := fun r => by
    cases r with
    | fill i => simp [Reader.withdrawn, h]
    | _ => rfl
  simp [TableStore.withdrawAll, h, hreader]

theorem withdraw_eq (t : TableStore) (i : SlotNo) : t.withdraw i = t.withdrawAll (· == i) := by
  have hreader : ∀ q : PortRead,
      (if q.reader = .fill i then { q with reader := .droppedFill } else q) =
        { q with reader := q.reader.withdrawn (· == i) } := fun q => by
    obtain ⟨reader, bytes⟩ := q
    cases reader with
    | fill j => by_cases hj : j = i <;> simp [Reader.withdrawn, hj]
    | _ => rfl
  have hslot : ∀ j : SlotNo, decide (j ≠ i) = !(j == i) := fun j => by by_cases hj : j = i <;> simp [hj]
  unfold TableStore.withdraw TableStore.withdrawAll
  simp only [hreader, hslot]

theorem dropFilling_eq (s : State) (i : SlotNo) :
    dropFilling s i =
      s.withCache (Vector.ofFn fun j => if j = i then (s.slot j).dropped else s.slot j)
        (s.ts.withdrawAll fun j => j == i && (s.slot j).isFilling) := by
  have hset := set_slots_eq s i (fun j => if j = i then (s.slot j).dropped else s.slot j) fun j hj => if_neg hj
  rw [← hset]
  simp only [if_true]
  unfold dropFilling
  split
  case h_1 mark w hslot =>
    have hwithdraw : s.ts.withdrawAll (fun j => j == i && (s.slot j).isFilling) = s.ts.withdraw i := by
      rw [withdraw_eq]
      refine congrArg s.ts.withdrawAll (funext fun j => ?_)
      by_cases hj : j = i
      · simp [hj, hslot, CacheSlot.isFilling]
      · simp [hj]
    rw [hwithdraw, hslot, CacheSlot.dropped]
    cases mark with
    | true => rw [withCache_set_of_drain (by rw [hslot]; rfl)]; rfl
    | false => rw [withCache_set_of_eq (by rw [hslot]; rfl)]; rfl
  case h_2 hother =>
    have hfilling : (s.slot i).isFilling = false ∧ (s.slot i).dropped = s.slot i := by
      cases hslot : s.slot i with
      | filling u m w => exact absurd hslot (hother u m w)
      | _ => exact ⟨rfl, rfl⟩
    have hnone : ∀ j, (j == i && (s.slot j).isFilling) = false := fun j => by
      by_cases hj : j = i
      · simp [hj, hfilling.1]
      · simp [hj]
    rw [withdrawAll_of_none _ hnone, hfilling.2, State.slot, Vector.set_getElem_self, withCache_self]

/-- The FILLING slots among these are dropped, in one change of the cache. -/
theorem foldl_dropFilling (l : List SlotNo) (s : State) :
    l.foldl dropFilling s =
      s.withCache (Vector.ofFn fun j => if j ∈ l then (s.slot j).dropped else s.slot j)
        (s.ts.withdrawAll fun j => decide (j ∈ l) && (s.slot j).isFilling) := by
  induction l generalizing s with
  | nil =>
    rw [withdrawAll_of_none _ fun j => by simp]
    refine (withCache_self s).symm.trans ?_
    rw [slots_eq_ofFn]
    simp
  | cons i l ih =>
    have hdropped : ∀ c : CacheSlot, c.dropped.dropped = c.dropped ∧ c.dropped.isFilling = false := fun c => by
      cases c <;> exact ⟨rfl, rfl⟩
    rw [List.foldl_cons, ih, dropFilling_eq s i]
    simp only [withCache_slot, withCache_ts, withdrawAll_withdrawAll]
    rw [withCache_withCache]
    · refine congrArg₂ s.withCache (congrArg Vector.ofFn (funext fun j => ?_))
        (congrArg s.ts.withdrawAll (funext fun j => ?_))
      · by_cases hj : j = i <;> by_cases hl : j ∈ l <;> simp [hj, hl, hdropped]
      · by_cases hj : j = i <;> simp [hj, hdropped]
    · intro j hj
      rw [Vector.getElem_ofFn]
      split
      · exact undrained_dropped hj
      · exact hj
    · intro j hj
      rw [Vector.getElem_ofFn] at hj ⊢
      split
      · exact undrained_dropped hj
      · exact hj

/-! ## The cache after a break (R22, R45) -/

/-- How many QUEUED transactions hold a reference to a slot (R40). -/
def State.queuedOn (s : State) (i : SlotNo) : Nat := ((List.finRange 16).filter fun t => (s.tag t).queuedOn i).length

/-- What a break leaves of a slot (R22, R45). -/
def State.leftOf (s : State) (i : SlotNo) : CacheSlot := (CacheSlot.released^[s.queuedOn i] (s.slot i)).dropped

theorem breakCache_eq (s : State) :
    breakCache s = s.withCache (Vector.ofFn s.leftOf) (s.ts.withdrawAll fun i => (s.slot i).isFilling) := by
  unfold breakCache
  rw [foldl_releaseQueued, foldl_dropFilling]
  simp only [withCache_slot, withCache_ts, List.mem_finRange, if_true, decide_true, Bool.true_and,
    isFilling_iterate_released]
  rw [withCache_withCache]
  · rfl
  · intro i hi
    rw [Vector.getElem_ofFn]
    exact undrained_iterate_released hi _
  · intro i hi
    rw [Vector.getElem_ofFn] at hi ⊢
    exact undrained_dropped hi

theorem leftOf_empty {i : SlotNo} (h : s.slot i = .empty) : s.leftOf i = .empty := by
  rw [State.leftOf, h, Function.iterate_fixed rfl]; rfl

theorem leftOf_filling {i : SlotNo} {u : Byte} {m : Bool} {w : List Tag} (h : s.slot i = .filling u m w) :
    s.leftOf i = .empty := by
  rw [State.leftOf, h, Function.iterate_fixed rfl]; rfl

theorem leftOf_valid {i : SlotNo} {u : Byte} {r : Route} {m : Nat} (h : s.slot i = .valid u r m) :
    s.leftOf i = .valid u r (m - s.queuedOn i) := by
  rw [State.leftOf, h, iterate_released_valid]; rfl

theorem leftOf_stale {i : SlotNo} {u : Byte} {r : Route} {m : Nat} (h : s.slot i = .stale u r m) :
    s.leftOf i = if s.queuedOn i ≠ 0 ∧ m ≤ s.queuedOn i then .empty else .stale u r (m - s.queuedOn i) := by
  rw [State.leftOf, h, iterate_released_stale]
  split <;> rfl

/-- A slot that a break leaves holds the cache back only when it is STALE, and was so before (R44). -/
theorem undrained_leftOf (s : State) (i : SlotNo) : (s.leftOf i).undrained = (s.leftOf i).isStale := by
  unfold State.leftOf
  cases CacheSlot.released^[s.queuedOn i] (s.slot i) <;> rfl

theorem leftOf_of_stale {i : SlotNo} (h : (s.slot i).isStale = true) :
    s.leftOf i = .empty ∨ (s.leftOf i).isStale = true := by
  cases hslot : s.slot i with
  | stale u r m =>
    rw [leftOf_stale hslot]
    split
    · exact .inl rfl
    · exact .inr rfl
  | _ => simp [hslot, CacheSlot.isStale] at h

/-- A break drains the cache when it takes every STALE slot and every refill mark there was (R44). -/
theorem drained_by_break_iff (s : State) :
    (s.rc.drained = false ∧ RouteCache.drained { s.rc with slots := Vector.ofFn s.leftOf } = true) ↔
      (∃ i : SlotNo, ((s.slot i).isStale = true ∧ s.leftOf i = .empty) ∨ (s.slot i).marked = true) ∧
        ∀ i : SlotNo, (s.leftOf i).isStale = false := by
  have hafter : RouteCache.drained { s.rc with slots := Vector.ofFn s.leftOf } = true ↔
      ∀ i : SlotNo, (s.leftOf i).isStale = false := by
    simp [RouteCache.drained, undrained_leftOf]
  have hbefore : s.rc.drained = false ↔ ∃ i : SlotNo, (s.slot i).isStale = true ∨ (s.slot i).marked = true := by
    rw [drained_eq_false_iff]
    simp only [undrained_eq, Bool.or_eq_true, State.slot]
  rw [hafter, hbefore]
  refine and_congr_left fun hleft => exists_congr fun i => or_congr_left ?_
  refine ⟨fun hstale => ⟨hstale, (leftOf_of_stale hstale).resolve_right ?_⟩, fun h => h.1⟩
  simp [hleft i]

end Sys2Proof.Machine
end

section
/-!
A detected trunk break (O32; R162, R22, R167): what each block holds after it, and the FENCE that completes in it (R44, R117).
-/

namespace Sys2Proof.Machine

variable {s : State}

/-! ## The FENCE that a break completes -/

theorem completeFence_of_empty (hqueue : s.iqe.queue = []) : completeFence s = s := by rw [completeFence, hqueue]

theorem completeFence_of_head {d : Descriptor} {rest : List Descriptor} (hqueue : s.iqe.queue = d :: rest) :
    completeFence s =
      { s with
        iqe :=
          { s.iqe with
            queue := rest
            state := if rest = [] then .idle else .running
            lastCompletion := some { seq := d.seq, requested := kindFence, performed := kindFence } }
        es := { s.es with fenceNotify := s.es.fenceNotify || d.notify } } := by
  rw [completeFence, hqueue, ← stateAfterHead_eq]
  rfl

/-- A break completes a FENCE: one waits, and the break drains the cache (R44, R117). -/
def State.breakEndsFence (s : State) : Prop :=
  s.iqe.state = .waitingFence ∧
  (∃ i : SlotNo, ((s.slot i).isStale = true ∧ s.leftOf i = .empty) ∨ (s.slot i).marked = true) ∧
  ∀ i : SlotNo, (s.leftOf i).isStale = false

theorem breakCache_of_fence {d : Descriptor} {rest : List Descriptor} (hqueue : s.iqe.queue = d :: rest)
    (h : s.breakEndsFence) :
    breakCache s =
      { s.recached (Vector.ofFn s.leftOf) (s.ts.withdrawAll fun i => (s.slot i).isFilling) with
        iqe :=
          { s.iqe with
            queue := rest
            state := if rest = [] then .idle else .running
            lastCompletion := some { seq := d.seq, requested := kindFence, performed := kindFence } }
        es := { s.es with fenceNotify := s.es.fenceNotify || d.notify } } := by
  obtain ⟨hwaiting, hdrains⟩ := h
  obtain ⟨hbefore, hafter⟩ := (drained_by_break_iff s).2 hdrains
  rw [breakCache_eq, withCache_of_reported hwaiting hbefore hafter]
  exact completeFence_of_head hqueue

theorem breakCache_of_no_fence (h : s.iqe.queue = [] ∨ ¬ s.breakEndsFence) :
    breakCache s = s.recached (Vector.ofFn s.leftOf) (s.ts.withdrawAll fun i => (s.slot i).isFilling) := by
  rw [breakCache_eq, State.withCache]
  split
  case isTrue hreported =>
    have hends : s.breakEndsFence := ⟨hreported.1, (drained_by_break_iff s).1 hreported.2⟩
    exact completeFence_of_empty (h.resolve_right (not_not_intro hends))
  case isFalse => rfl

/-! ## The other blocks -/

/-- Only a command whose execution has begun stays, without its tag (R167). -/
theorem managementUnit_broken_eq (m : ManagementUnit) :
    m.broken =
      { queue :=
          m.queue.filterMap fun e =>
            match e with
            | .executing _ => some (.executing none)
            | .waiting _ => none
        halted := none } := by
  unfold ManagementUnit.broken
  refine congrArg (ManagementUnit.mk · none) ?_
  induction m.queue with
  | nil => rfl
  | cons e rest ih =>
    cases e with
    | executing _ => exact congrArg (.executing none :: ·) ih
    | waiting _ => exact ih

/-- The slots that a break leaves, by what they held (R22, R45). -/
theorem leftOf_eq (s : State) (i : SlotNo) :
    s.leftOf i =
      match s.slot i with
      | .empty => .empty
      | .filling _ _ _ => .empty
      | .valid v route m => .valid v route (m - s.queuedOn i)
      | .stale v route m =>
        if s.queuedOn i ≠ 0 ∧ m ≤ s.queuedOn i then .empty else .stale v route (m - s.queuedOn i) := by
  split
  case h_1 hslot => exact leftOf_empty hslot
  case h_2 hslot => exact leftOf_filling hslot
  case h_3 hslot => exact leftOf_valid hslot
  case h_4 hslot => exact leftOf_stale hslot

/-- The state whose cache a break clears: the Trunk Port is broken and the break counted (R162). -/
def State.brokenOff (s : State) : State := count (.trunk .breaks) { s with tp := s.tp.broken }

/-- What a break makes of the blocks apart from the cache, the Table Store and the engine (R22, R63, R89, R167). -/
def State.freed (s : State) : State :=
  { s with
    dsp := { s.dsp with tags := Vector.replicate 16 TagRecord.blank }
    mu := s.mu.broken
    pu := { s.pu with held := [] }
    ports := Vector.ofFn fun b => (s.port b).broken }

theorem breakEffects_eq (s : State) : breakEffects s = (breakCache s.brokenOff).freed := by
  simp only [breakEffects, freeTags, State.freed, State.brokenOff, State.port]

end Sys2Proof.Machine

namespace Sys2Proof
open Sys2Proof.Machine

/-- Settles O32: before its time the break leaves the state, and then it frees the blocks one by one; whether it ends a FENCE decides what it leaves of the engine. -/
theorem trunkBreakFrees : Obligations.TrunkBreakFrees := by
  refine fun s hpowered => ⟨fun hheld => ?_, fun hbreak htimer => ?_⟩
  · rw [exec_trunkBreak hpowered, detectBreak_of_not_held hheld]
  · intro queuedOn left filling fenceEnds counted
    have hleft : s.brokenOff.leftOf = left := funext fun i => leftOf_eq s i
    have hfence : fenceEnds ↔ s.brokenOff.breakEndsFence := by
      simp only [fenceEnds, ← hleft]
      rfl
    rw [exec_trunkBreak hpowered, detectBreak_of_held hbreak htimer, breakEffects_eq, State.freed, managementUnit_broken_eq]
    refine congrArg Host.Outcome.next (congrArg settle ?_)
    cases hqueue : s.iqe.queue with
    | nil =>
      rw [breakCache_of_no_fence (s := s.brokenOff) (.inl hqueue), hleft]
      rfl
    | cons d rest =>
      by_cases hends : fenceEnds
      · rw [breakCache_of_fence (s := s.brokenOff) hqueue (hfence.1 hends), hleft]
        simp only [hends, if_true]
        rfl
      · rw [breakCache_of_no_fence (.inr (mt hfence.2 hends)), hleft]
        simp only [hends, if_false]
        rfl

end Sys2Proof
end

section
/-!
The management commands of identification, configuration and reset: IDENTIFY and the codes (O3), READ-CONFIG (O4), SET-CONFIG (O14) and RESET-BRIDGE with the soft reset that follows its reply (O28) (R161, R168 to R171).
-/

namespace Sys2Proof.Machine

variable {s : State} {t : Tag} {params : List Byte}

/-! ## IDENTIFY and the codes (R168, R177) -/

theorem exec_identify (h : Ready s t 0 params) :
    exec .identify s = .next
      (if params = [] then answered t .accepted identity s else answered t .badParameter [] s) := by
  have ⟨hpowered, _, _, hunit, _⟩ := h
  rw [exec, execIdentify, event_of_powered hpowered, whenCommand_of_ready h (by decide), withoutParameters_eq hunit,
    identifyCommand, reply_eq_answered hunit]

/-- An op byte names the op whose code it is, and no other (R177). -/
theorem reqOp_ofCode_eq_some_iff (b : Byte) (op : ReqOp) : ReqOp.ofCode b = some op ↔ b = op.code := by
  constructor
  · intro h
    unfold ReqOp.ofCode at h
    split_ifs at h <;> cases h <;> assumption
  · rintro rfl
    cases op <;> rfl

/-! ## READ-CONFIG (R169, R180) -/

theorem exec_readConfig (h : Ready s t 1 params) :
    exec .readConfig s = .next
      (if params = [] then answered t .accepted (configReport s.sul.config s.es.mask) s
      else answered t .badParameter [] s) := by
  have ⟨hpowered, _, _, hunit, _⟩ := h
  rw [exec, execReadConfig, event_of_powered hpowered, whenCommand_of_ready h (by decide), withoutParameters_eq hunit,
    readConfigCommand, reply_eq_answered hunit]

theorem toList_of_four {α : Type} (v : Vector α 4) : v.toList = [v[0], v[1], v[2], v[3]] := by
  refine List.ext_getElem (by simp) fun n hn _ => ?_
  have hn4 : n < 4 := by simpa using hn
  interval_cases n <;> simp

/-- The report of the live configuration, byte by byte: the eleven fields, the three bytes of the protection range, and the two of the loader (R169, R180). -/
theorem configReport_eq (c : LiveConfig) (mask : Byte) :
    configReport c mask =
      [branchBits c.values.enabled, branchBits c.values.broadcast,
        byteOf c.values.retryLimit[0].val, byteOf c.values.retryLimit[1].val,
        byteOf c.values.retryLimit[2].val, byteOf c.values.retryLimit[3].val,
        byteOf c.values.echoLimit[0].val, byteOf c.values.echoLimit[1].val,
        byteOf c.values.echoLimit[2].val, byteOf c.values.echoLimit[3].val,
        c.values.timeout[0], c.values.timeout[1], c.values.timeout[2], c.values.timeout[3],
        byteOf c.values.broadcastClass.val, flagAt 0 c.values.autoSuspend ||| flagAt 1 c.values.autoSnapshot, mask] ++
      protectionBytes c.values.protection ++ [c.source.code, flagByte c.modified] := by
  simp [configReport, configBytes, toList_of_four]

theorem length_protectionBytes (p : Option (Fin 8 × Fin 8)) : (protectionBytes p).length = 3 := by
  cases p <;> rfl

/-- Bit n of a byte of flags per branch is the flag of branch n (R179). -/
theorem bitOf_branchBits (v : Vector Bool 4) (b : Branch) : bitOf b.val (branchBits v) = v[b.val] := by
  have hbits : ∀ n : Fin 8, bitOf n.val (branchBits v) =
      ((v[0] && n.val == 0) || (v[1] && n.val == 1) || (v[2] && n.val == 2) || (v[3] && n.val == 3)) := fun n => by
    simp (disch := decide) only [branchBits, bitOf_or, bitOf_flagAt]
  have hbit := hbits ⟨b.val, by omega⟩
  rw [hbit]
  fin_cases b <;> simp

theorem bitOf_flagAt_or_flagAt (a b : Bool) (n : Fin 2) :
    bitOf n.val (flagAt 0 a ||| flagAt 1 b) = if n = 0 then a else b := by
  decide +revert

/-! ## SET-CONFIG (R170, R180) -/

/-- A pair that SET-CONFIG admits: its identifier names a settable field and its value lies in the range of that field (R170). -/
abbrev PairAdmitted (p : Byte × Byte) : Prop :=
  (0x10 ≤ p.1.toNat ∧ p.1.toNat ≤ 0x13 ∧ p.2.toNat ≤ 3) ∨
  (0x14 ≤ p.1.toNat ∧ p.1.toNat ≤ 0x17 ∧ 1 ≤ p.2.toNat ∧ p.2.toNat ≤ 15) ∨
  (0x18 ≤ p.1.toNat ∧ p.1.toNat ≤ 0x1B ∧ p.2.toNat ≤ 1) ∨
  (0x1C ≤ p.1.toNat ∧ p.1.toNat ≤ 0x1F ∧ 1 ≤ p.2.toNat) ∨
  (p.1.toNat = 0x20 ∧ p.2.toNat ≤ 15) ∨ (p.1.toNat = 0x21 ∧ p.2.toNat ≤ 1) ∨ (p.1.toNat = 0x22 ∧ p.2.toNat ≤ 1)

/-- What an admitted pair asks to be written (R170, R180). -/
def pairWrite (p : Byte × Byte) : ConfigWrite :=
  let n := p.1.toNat
  if n < 0x14 then .retryLimit (Fin.ofNat 4 (n - 0x10)) (Fin.ofNat 4 p.2.toNat)
  else if n < 0x18 then .echoLimit (Fin.ofNat 4 (n - 0x14)) (Fin.ofNat 16 p.2.toNat)
  else if n < 0x1C then .broadcast (Fin.ofNat 4 (n - 0x18)) (p.2 == 1)
  else if n < 0x20 then .timeout (Fin.ofNat 4 (n - 0x1C)) p.2
  else if n = 0x20 then .broadcastClass (Fin.ofNat 16 p.2.toNat)
  else if n = 0x21 then .autoSuspend (p.2 == 1)
  else .autoSnapshot (p.2 == 1)

theorem flagParameter_eq_of_toNat (b : Byte) : flagParameter b = if b.toNat ≤ 1 then some (b == 1) else none := by
  have hrange : b.toNat ≤ 1 ↔ b = 0 ∨ b = 1 := by
    rw [BitVec.toNat_eq, BitVec.toNat_eq]
    exact Nat.le_one_iff_eq_zero_or_eq_one
  simp only [flagParameter_eq, hrange]

/-- A pair decodes to its write when it is admitted, and to nothing otherwise: by the field that its identifier names. -/
theorem decodeConfigWrite_eq (p : Byte × Byte) :
    decodeConfigWrite p.1 p.2 = if PairAdmitted p then some (pairWrite p) else none := by
  obtain ⟨id, value⟩ := p
  simp only [decodeConfigWrite, flagParameter_eq_of_toNat, Option.map_if, pairWrite, PairAdmitted]
  generalize id.toNat = n
  split
  case isTrue hretry => exact if_congr (by omega) (by rw [if_pos (by omega)]) rfl
  split
  case isTrue hecho => exact if_congr (by omega) (by rw [if_neg (by omega), if_pos (by omega)]) rfl
  split
  case isTrue hbroadcast =>
    exact if_congr (by omega) (by rw [if_neg (by omega), if_neg (by omega), if_pos (by omega)]) rfl
  split
  case isTrue htimeout =>
    exact if_congr (by omega) (by rw [if_neg (by omega), if_neg (by omega), if_neg (by omega), if_pos (by omega)]) rfl
  split
  case isTrue hclass => subst hclass; exact if_congr (by omega) rfl rfl
  split
  case isTrue hsuspend => subst hsuspend; exact if_congr (by omega) rfl rfl
  split
  case isTrue hsnapshot => subst hsnapshot; exact if_congr (by omega) rfl rfl
  case isFalse hnone => rw [if_neg (by omega)]

/-- A place below 4 is written in bounds. -/
theorem set_ofNat_eq {α : Type} (v : Vector α 4) {k : Nat} (hk : k < 4) (x : α) :
    v.set (Fin.ofNat 4 k).val x = v.setIfInBounds k x := by
  have hval : (Fin.ofNat 4 k).val = k := Nat.mod_eq_of_lt hk
  simp only [hval, Vector.setIfInBounds, Vector.set]
  simp [Array.setIfInBounds, hk]

/-- The field that an admitted pair writes, at the place that its identifier gives (R170). -/
theorem write_pairWrite (c : ConfigValues) (p : Byte × Byte) :
    c.write (pairWrite p) =
      let n := p.1.toNat
      if n < 0x14 then { c with retryLimit := c.retryLimit.setIfInBounds (n - 0x10) (Fin.ofNat 4 p.2.toNat) }
      else if n < 0x18 then { c with echoLimit := c.echoLimit.setIfInBounds (n - 0x14) (Fin.ofNat 16 p.2.toNat) }
      else if n < 0x1C then { c with broadcast := c.broadcast.setIfInBounds (n - 0x18) (p.2 == 1) }
      else if n < 0x20 then { c with timeout := c.timeout.setIfInBounds (n - 0x1C) p.2 }
      else if n = 0x20 then { c with broadcastClass := Fin.ofNat 16 p.2.toNat }
      else if n = 0x21 then { c with autoSuspend := p.2 == 1 }
      else { c with autoSnapshot := p.2 == 1 } := by
  rw [pairWrite]
  dsimp only
  split
  case isTrue hretry => rw [ConfigValues.write, set_ofNat_eq _ (by omega)]
  split
  case isTrue hecho => rw [ConfigValues.write, set_ofNat_eq _ (by omega)]
  split
  case isTrue hbroadcast => rw [ConfigValues.write, set_ofNat_eq _ (by omega)]
  split
  case isTrue htimeout => rw [ConfigValues.write, set_ofNat_eq _ (by omega)]
  split
  case isTrue => rfl
  split
  case isTrue => rfl
  case isFalse => rfl

theorem decodeConfigWrites_cons (p : Byte × Byte) (rest : List Byte) :
    decodeConfigWrites (p.1 :: p.2 :: rest) =
      if PairAdmitted p then (decodeConfigWrites rest).map (pairWrite p :: ·) else none := by
  rw [decodeConfigWrites, decodeConfigWrite_eq]
  by_cases hp : PairAdmitted p
  · rw [if_pos hp, if_pos hp]
    cases decodeConfigWrites rest <;> rfl
  · rw [if_neg hp, if_neg hp]

/-- The pairs are judged whole: one that is not admitted refuses them all (R170). -/
theorem decodeConfigWrites_flatMap (pairs : List (Byte × Byte)) :
    decodeConfigWrites (pairs.flatMap fun p => [p.1, p.2]) =
      if ∀ p ∈ pairs, PairAdmitted p then some (pairs.map pairWrite) else none := by
  induction pairs with
  | nil => exact (if_pos fun p hp => absurd hp List.not_mem_nil).symm
  | cons p rest ih =>
    have hfirst : ((p :: rest).flatMap fun p => [p.1, p.2]) = p.1 :: p.2 :: rest.flatMap fun p => [p.1, p.2] := rfl
    rw [hfirst, decodeConfigWrites_cons, ih]
    by_cases hall : ∀ q ∈ p :: rest, PairAdmitted q
    · obtain ⟨hp, hrest⟩ := List.forall_mem_cons.1 hall
      rw [if_pos hall, if_pos hp, if_pos hrest, Option.map_some, List.map_cons]
    · have hsome : PairAdmitted p → ¬ ∀ q ∈ rest, PairAdmitted q := fun hp hrest =>
        hall (List.forall_mem_cons.2 ⟨hp, hrest⟩)
      rw [if_neg hall]
      split
      case isTrue hp => rw [if_neg (hsome hp), Option.map_none]
      case isFalse => rfl

/-- A byte left over refuses the whole list (R170). -/
theorem decodeConfigWrites_of_odd : ∀ {params : List Byte}, params.length % 2 = 1 → decodeConfigWrites params = none
  | [], h => absurd h (by decide)
  | [_], _ => rfl
  | id :: value :: rest, h => by
    have hrest : rest.length % 2 = 1 := by simp only [List.length_cons] at h; omega
    rw [decodeConfigWrites_cons (id, value), decodeConfigWrites_of_odd hrest, Option.map_none, ite_self]

theorem exec_setConfig (h : Ready s t 2 params) : exec .setConfig s = .next (setConfigCommand t params s) := by
  have ⟨hpowered, _⟩ := h
  rw [exec, execSetConfig, event_of_powered hpowered, whenCommand_of_ready h (by decide)]

theorem setConfigCommand_of_refused (hunit : (s.tag t).unit = 0) (h : decodeSetConfig params = none) :
    setConfigCommand t params s = answered t .badParameter [] s := by
  rw [setConfigCommand, h]
  exact reply_eq_answered hunit ..

theorem setConfigCommand_of_decoded (hunit : (s.tag t).unit = 0) {ws : List ConfigWrite}
    (h : decodeSetConfig params = some ws) :
    setConfigCommand t params s = answered t .accepted [byteOf ws.length] (applyConfig ws s) := by
  rw [setConfigCommand, h]
  exact reply_eq_answered (s := applyConfig ws s) hunit ..

theorem decodeSetConfig_of_count (h : params.length % 2 = 1 ∨ params.length = 0 ∨ 38 < params.length) :
    decodeSetConfig params = none := by
  rw [decodeSetConfig]
  split
  case isTrue => rfl
  case isFalse hcount => exact decodeConfigWrites_of_odd (h.resolve_right hcount)

theorem decodeSetConfig_flatMap {pairs : List (Byte × Byte)} (hone : 1 ≤ pairs.length) (hmax : pairs.length ≤ 19) :
    decodeSetConfig (pairs.flatMap fun p => [p.1, p.2]) =
      if ∀ p ∈ pairs, PairAdmitted p then some (pairs.map pairWrite) else none := by
  have hlength : (pairs.flatMap fun p => [p.1, p.2]).length = 2 * pairs.length := by
    simp [List.length_flatMap, Nat.mul_comm]
  rw [decodeSetConfig, if_neg (by omega), decodeConfigWrites_flatMap]

/-! ## RESET-BRIDGE and the end of its reply (R161, R171) -/

/-- RESET-BRIDGE appends its reply and halts the Management Unit (R171). -/
theorem exec_resetBridge (h : Ready s t 27 params) :
    exec .resetBridge s = .next
      (if params = [] then answered t .accepted [] { s with mu := { s.mu with halted := some t } }
      else answered t .badParameter [] s) := by
  have ⟨hpowered, _, _, hunit, _⟩ := h
  have hreply := reply_eq_answered (t := t) (s := { s with mu := { s.mu with halted := some t } }) hunit .accepted []
  rw [exec, execResetBridge, event_of_powered hpowered, whenCommand_of_ready h (by decide), withoutParameters_eq hunit,
    resetBridgeCommand, hreply]

theorem exec_transmissionEnd (hpowered : s.powered = true) {sent : List Byte} (hsent : s.tp.transmitter = some sent)
    {r : Response} {rest : List Response} (hreplies : s.tp.replies = r :: rest) :
    exec .transmissionEnd s = .next
      (if s.mu.halted = some r.tag then softReset (finishResponse r s) else finishResponse r s) := by
  rw [exec, execTransmissionEnd, event_of_powered hpowered, hsent, hreplies]

/-- The end of a transmission leaves the response behind it at the head, and a blank record under its tag (R161; log 9). -/
theorem finishResponse_eq {r : Response} {rest : List Response} (hreplies : s.tp.replies = r :: rest) :
    finishResponse r s =
      { s with
        tp := { s.tp with replies := rest, transmitter := none }
        dsp := { s.dsp with tags := s.dsp.tags.set r.tag.val TagRecord.blank } } := by
  rw [finishResponse, hreplies]
  rfl

/-- The soft reset leaves nothing of what the end of the transmission has changed (R3, R161). -/
theorem softReset_finishResponse (r : Response) (s : State) : softReset (finishResponse r s) = softReset s := rfl

end Sys2Proof.Machine

namespace Sys2Proof
open Sys2Proof.Machine

/-- Settles O3: the reply, and the codes constructor by constructor. -/
theorem identifyAnswers : Obligations.IdentifyAnswers := by
  refine ⟨fun s t params hready => exec_identify hready, ?_, ?_, ?_, ?_, reqOp_ofCode_eq_some_iff⟩
  · intro o; cases o <;> rfl
  · intro r; cases r <;> rfl
  · intro k; cases k <;> rfl
  · intro op; cases op <;> rfl

/-- Settles O4: the report is the data, read position by position. -/
theorem readConfigAnswers : Obligations.ReadConfigAnswers := by
  intro s t params hready
  rw [exec_readConfig hready]
  split
  case isFalse => rfl
  case isTrue =>
    refine ⟨configReport s.sul.config s.es.mask, rfl, ?_⟩
    rw [configReport_eq, State.config]
    refine ⟨by simp [length_protectionBytes], fun b => ⟨bitOf_branchBits _ b, bitOf_branchBits _ b, ?_⟩, rfl, ?_, ?_, rfl,
      ?_, ?_, ?_⟩
    · fin_cases b <;> exact ⟨rfl, rfl, rfl⟩
    · exact bitOf_flagAt_or_flagAt _ _ 0
    · exact bitOf_flagAt_or_flagAt _ _ 1
    · cases s.sul.config.values.protection with
      | none => exact ⟨rfl, rfl, rfl⟩
      | some range => exact ⟨rfl, rfl, rfl⟩
    · cases s.sul.config.values.protection <;> cases s.sul.config.source <;> rfl
    · cases s.sul.config.values.protection <;> rfl

/-- Settles O14: by the count, by a pair that is not admitted, and by the writes of pairs that all are. -/
theorem setConfigWrites : Obligations.SetConfigWrites := by
  unfold Obligations.SetConfigWrites
  intro admitted write s t params hready
  have ⟨_, _, _, hunit, _⟩ := hready
  rw [exec_setConfig hready]
  refine ⟨fun hcount => ?_, fun pairs hone hmax hparams => ⟨?_, fun hadmitted => ?_⟩⟩
  · rw [setConfigCommand_of_refused hunit (decodeSetConfig_of_count hcount)]
  · rintro ⟨p, hp, hrefused⟩
    have hdecoded : decodeSetConfig params = none := by
      rw [hparams, decodeSetConfig_flatMap hone hmax, if_neg fun hall => hrefused (hall p hp)]
    rw [setConfigCommand_of_refused hunit hdecoded]
  · have hdecoded : decodeSetConfig params = some (pairs.map pairWrite) := by
      rw [hparams, decodeSetConfig_flatMap hone hmax, if_pos hadmitted]
    rw [setConfigCommand_of_decoded hunit hdecoded, List.length_map, applyConfig, List.foldl_map]
    have hwrite : ∀ c p, c.write (pairWrite p) = write c p := write_pairWrite
    simp only [hwrite]

/-- Settles O28: the command, then the end of a transmission with the soft reset written out block by block. -/
theorem resetFollowsItsReply : Obligations.ResetFollowsItsReply := by
  refine ⟨fun s t params hready => exec_resetBridge hready, fun s sent r rest hpowered hsent hreplies => ?_⟩
  rw [exec_transmissionEnd hpowered hsent hreplies, softReset_finishResponse, finishResponse_eq hreplies, softReset]
  rfl

end Sys2Proof
end

section
/-!
The Start-Up Loader: its reads of the record and of the policy chunks, and the load applied in one event (O41) (R173, R174).
-/

namespace Sys2Proof.Machine

variable {s : State}

/-! ## The reads of the loader (R173) -/

theorem exec_loaderReadCompletion (hpowered : s.powered = true) {bytes : List Byte} {k : Fin 33}
    {record : Option LoadedRecord} {bad : Nat} (hreading : s.ts.reading = some { reader := .loader, bytes := bytes })
    (hloading : s.sul.state = .reading k record bad) :
    exec .loaderReadCompletion s = .next (settle (loaderArrived k record bad bytes (freePort s))) := by
  rw [exec, execLoaderReadCompletion, event_of_powered hpowered, hreading, hloading]

/-- Read 0 is the configuration record, whatever was held before it. -/
theorem loaderArrived_of_record (record : Option LoadedRecord) (bad : Nat) (bytes : List Byte) (s : State) :
    loaderArrived 0 record bad bytes s = nextLoaderRead 0 (decodeRecord bytes) 0 s := rfl

/-- Read k + 1 is policy chunk k, and before the last chunk another read follows. -/
theorem loaderArrived_of_chunk {k : Fin 33} {chunk : Fin 32} (hk : k.val = chunk.val + 1) (hchunk : chunk ≠ 31)
    (record : Option LoadedRecord) (bad : Nat) (bytes : List Byte) (s : State) :
    loaderArrived k record bad bytes s =
      nextLoaderRead k record (bad + undecodableCount bytes) (writeChunk chunk bytes s) := by
  have hplace : Fin.ofNat 32 (k.val - 1) = chunk := by rw [hk, Nat.add_sub_cancel]; exact Fin.ofNat_val_eq_self chunk
  have hmore : k.val ≠ 32 := fun hlast => hchunk (Fin.ext (Nat.succ.inj (hk.symm.trans hlast)))
  rw [loaderArrived, if_neg (by omega), if_neg hmore, hplace]

/-- Read 32 is policy chunk 31, and the load is applied with it. -/
theorem loaderArrived_of_last (record : Option LoadedRecord) (bad : Nat) (bytes : List Byte) (s : State) :
    loaderArrived 32 record bad bytes s =
      applyLoad record (bad + undecodableCount bytes) (writeChunk 31 bytes s) := rfl

/-! ## The application of a load (R174) -/

/-- The lock decides between the range kept and the range applied (R174, step 4). -/
theorem TableStore.loadProtection_eq (t : TableStore) (v : ConfigValues) :
    t.loadProtection v = { t with protection := if t.lock = true then t.protection else v.protection } := by
  rw [TableStore.loadProtection]
  split <;> rfl

/-- A break is still held and detected when the line is in break and its timer no longer runs (R159, R174, step 7). -/
theorem TrunkPort.opened_eq (t : TrunkPort) :
    t.opened =
      { t with
        receiver := if t.lineInBreak = true ∧ t.breakTimer = none then .inBreak else .receiving
        openFor := 0 } := by
  simp only [TrunkPort.opened, Bool.and_eq_true, Option.isNone_iff_eq_none]

/-- The report of an invalid record reaches the Fault Record File and no other block (R174, step 2). -/
theorem reportInvalid_eq (record : Option LoadedRecord) (s : State) :
    reportInvalid record s =
      { s with
        frf :=
          match record with
          | some _ => s.frf
          | none => s.frf.report (FaultRecord.plain .configInvalid) } := by
  cases record <;> rfl

theorem loadedConfig_eq (record : Option LoadedRecord) :
    loadedConfig record =
      { values := appliedValues record
        source := match record with | some _ => .record | none => .defaults
        modified := false } := by
  cases record <;> rfl

/-- A load, block by block. -/
theorem applyLoad_eq (record : Option LoadedRecord) (bad : Nat) (s : State) :
    applyLoad record bad s =
      { reportInvalid record s with
        sul := { state := .idle, config := loadedConfig record }
        es := { s.es with mask := appliedMask record }
        ts := { s.ts with protection := if s.ts.lock = true then s.ts.protection else (appliedValues record).protection }
        pu := s.pu.loaded bad
        ports := Vector.ofFn fun b : Branch => (s.port b).loaded (appliedValues record).enabled[b.val]
        tp :=
          { s.tp with
            receiver := if s.tp.lineInBreak = true ∧ s.tp.breakTimer = none then .inBreak else .receiving
            openFor := 0 } } := by
  rw [applyLoad, reportInvalid_eq, reportInvalid_eq, TableStore.loadProtection_eq, TrunkPort.opened_eq]
  rfl

end Sys2Proof.Machine

namespace Sys2Proof
open Sys2Proof.Machine

/-- Settles O41: by the number of the read; the last one writes chunk 31 and applies the load block by block. -/
theorem loaderReadsAndApplies : Obligations.LoaderReadsAndApplies := by
  intro s bytes k record bad hpowered hreading hloading freed total
  rw [exec_loaderReadCompletion hpowered hreading hloading]
  refine ⟨fun hrecord => ?_, fun chunk hchunk hmore => ?_, fun hlast => ?_⟩
  · subst hrecord
    rw [loaderArrived_of_record]
    rfl
  · rw [loaderArrived_of_chunk hchunk hmore]
    rfl
  · subst hlast
    rw [loaderArrived_of_last, applyLoad_eq, reportInvalid_eq, loadedConfig_eq]
    rfl

end Sys2Proof
end

section
/-!
The queue of pending commands: the step on a queue that holds a command, beside `step_of_no_command` (O1).
-/

namespace Sys2Proof.Machine

variable {s : State}

/-- A step takes the first pending command off the queue and executes it. -/
theorem step_of_command {c : Instr} {rest : List Instr} (h : s.pending = c :: rest) :
    step s = exec c (s.withPending rest) := by rw [step, h]

end Sys2Proof.Machine

namespace Sys2Proof
open Sys2Proof.Machine

/-- Settles O1: the command put at the front is the one the step takes, and the rest takes the place of the whole queue. -/
theorem frontCommandRuns : Obligations.FrontCommandRuns := by
  intro c cs s
  have hfront : (s.withPending (c :: cs)).pending = c :: cs := pending_withPending s (c :: cs)
  rw [step_of_command hfront, withPending_withPending]

end Sys2Proof
end
